-- ==== Sys2Proof/Word.lean ====
section
/-! DEFINITION. The word types of the block: every port, register and register index is one byte (spec R7), an I/O
address has 16 bits (R60), the operation selector has 11 (R96). -/

namespace Sys2Proof

/-- One byte: the width of every port and of the register index (R7). -/
abbrev Byte := BitVec 8

/-- A host I/O address, 16 bits (R60). -/
abbrev Port := BitVec 16

/-- The operation selector {class[2:0], reg[7:0]} of R96: bookkeeping of the spec, no bit layout of the hardware. -/
abbrev Selector := BitVec 11

end Sys2Proof
end

