-- ==== Sys2Proof/Syntax.lean ====
section
/-! DEFINITION. The operations of the block (spec R90, R96): one constructor per mnemonic of spec/opcode_table.json
(rows of one mnemonic differ only in the block of register indices they match). A DATA operation whose row covers
several indices carries the index. -/

namespace Sys2Proof

/-- Which of the four hooks a card registered at attach (R49). -/
structure Hooks where
  /-- `has_cfg_cb`: the configuration-changed callback. -/
  cfgCb : Bool
  /-- `has_csn_cb`: the CSN-changed callback. -/
  csnCb : Bool
  /-- `has_vr`: the vendor-register read hook. -/
  vendorRead : Bool
  /-- `has_vw`: the vendor-register write hook. -/
  vendorWrite : Bool
deriving DecidableEq, Repr

/-- One operation: a bus access to one of the block's ports or a host call (R90). -/
inductive Instr where
  /-- `AW`: one-byte write of `v` to the ADDRESS port (R91, R120). -/
  | aw (v : Byte)
  /-- `DW.SET_RD_PORT` (R141). -/
  | dwSetRdPort (v : Byte)
  /-- `DW.SERIAL_ISOLATION` (R142). -/
  | dwSerialIsolation (v : Byte)
  /-- `DW.CONFIG_CONTROL` (R143). -/
  | dwConfigControl (v : Byte)
  /-- `DW.WAKE` (R147). -/
  | dwWake (v : Byte)
  /-- `DW.RESOURCE_DATA` (R142). -/
  | dwResourceData (v : Byte)
  /-- `DW.STATUS` (R142). -/
  | dwStatus (v : Byte)
  /-- `DW.CSN` (R152). -/
  | dwCsn (v : Byte)
  /-- `DW.LDN` (R154). -/
  | dwLdn (v : Byte)
  /-- `DW.UNRECOGNIZED`, index 0x08 to 0x1F (R157). -/
  | dwUnrecognized (reg v : Byte)
  /-- `DW.VENDOR_CARD`, index 0x20 to 0x2F (R201). -/
  | dwVendorCard (reg v : Byte)
  /-- `DW.ACTIVATE` (R203). -/
  | dwActivate (v : Byte)
  /-- `DW.IO_RANGE_CHECK` (R205). -/
  | dwIoRangeCheck (v : Byte)
  /-- `DW.GENERIC`, index 0x32 to 0x37, 0x40 to 0xEF or 0xFF (R210). -/
  | dwGeneric (reg v : Byte)
  /-- `DW.VENDOR_LD`, index 0x38 to 0x3F or 0xF0 to 0xFE (R208). -/
  | dwVendorLd (reg v : Byte)
  /-- `DR.SET_RD_PORT` (R142). -/
  | drSetRdPort
  /-- `DR.SERIAL_ISOLATION` (R180). -/
  | drSerialIsolation
  /-- `DR.CONFIG_CONTROL` (R142). -/
  | drConfigControl
  /-- `DR.WAKE` (R142). -/
  | drWake
  /-- `DR.RESOURCE_DATA` (R149). -/
  | drResourceData
  /-- `DR.STATUS` (R150). -/
  | drStatus
  /-- `DR.CSN` (R151). -/
  | drCsn
  /-- `DR.LDN` (R153). -/
  | drLdn
  /-- `DR.UNRECOGNIZED`, index 0x08 to 0x1F (R157). -/
  | drUnrecognized (reg : Byte)
  /-- `DR.VENDOR_CARD`, index 0x20 to 0x2F (R200). -/
  | drVendorCard (reg : Byte)
  /-- `DR.ACTIVATE` (R202). -/
  | drActivate
  /-- `DR.IO_RANGE_CHECK` (R204). -/
  | drIoRangeCheck
  /-- `DR.GENERIC`, index 0x32 to 0x37, 0x40 to 0xEF or 0xFF (R209). -/
  | drGeneric (reg : Byte)
  /-- `DR.VENDOR_LD`, index 0x38 to 0x3F or 0xF0 to 0xFE (R207). -/
  | drVendorLd (reg : Byte)
  /-- `RC`: one-byte read of I/O address `a` by the range-check responders (R94, R206). -/
  | rc (a : Port)
  /-- `add_card`: attach a card with this ROM and these hooks (R240). -/
  | addCard (rom : List Byte) (hooks : Hooks)
  /-- `set_csn`: force the CSN of the card with this handle, its chain index (R258, log 11). -/
  | setCsn (card : BitVec 32) (csn : Byte)
  /-- `machine_init` (R300). -/
  | machineInit
  /-- `machine_teardown` (R300). -/
  | machineTeardown
deriving DecidableEq, Repr

end Sys2Proof
end

