-- ==== Sys2Proof/WellFormed.lean ====
section
/-! DEFINITION. Which terms of `Instr` are operations of the spec: the index of a DATA operation lies in its row's
block (spec R95, R96), and the ROM given to add_card has its nine header bytes (R38, decision D16). -/

namespace Sys2Proof

/-- The index `r` lies in the closed range `lo` to `hi`. -/
def inBlock (lo hi : Nat) (r : Byte) : Bool :=
  decide (lo ≤ r.toNat) && decide (r.toNat ≤ hi)

/-- 0x08 to 0x1F: in no row of the source's table (R95, R157). -/
def isUnrecognizedIndex (r : Byte) : Bool := inBlock 0x08 0x1F r

/-- 0x20 to 0x2F: vendor-defined, card scope (R95, R200). -/
def isVendorCardIndex (r : Byte) : Bool := inBlock 0x20 0x2F r

/-- 0x38 to 0x3F and 0xF0 to 0xFE: vendor-defined, device scope (R95, R207). -/
def isVendorLdIndex (r : Byte) : Bool := inBlock 0x38 0x3F r || inBlock 0xF0 0xFE r

/-- 0x32 to 0x37, 0x40 to 0xEF and 0xFF: generic device registers (R95, R209). -/
def isGenericIndex (r : Byte) : Bool := inBlock 0x32 0x37 r || inBlock 0x40 0xEF r || inBlock 0xFF 0xFF r

/-- The shortest ROM: its header, bytes 0 to 8 (R38, D16). -/
def minRomLen : Nat := 9

/-- `i` is an operation of the spec. -/
def Instr.wellFormed : Instr → Bool
  | .aw _ => true
  | .dwSetRdPort _ => true
  | .dwSerialIsolation _ => true
  | .dwConfigControl _ => true
  | .dwWake _ => true
  | .dwResourceData _ => true
  | .dwStatus _ => true
  | .dwCsn _ => true
  | .dwLdn _ => true
  | .dwUnrecognized reg _ => isUnrecognizedIndex reg
  | .dwVendorCard reg _ => isVendorCardIndex reg
  | .dwActivate _ => true
  | .dwIoRangeCheck _ => true
  | .dwGeneric reg _ => isGenericIndex reg
  | .dwVendorLd reg _ => isVendorLdIndex reg
  | .drSetRdPort => true
  | .drSerialIsolation => true
  | .drConfigControl => true
  | .drWake => true
  | .drResourceData => true
  | .drStatus => true
  | .drCsn => true
  | .drLdn => true
  | .drUnrecognized reg => isUnrecognizedIndex reg
  | .drVendorCard reg => isVendorCardIndex reg
  | .drActivate => true
  | .drIoRangeCheck => true
  | .drGeneric reg => isGenericIndex reg
  | .drVendorLd reg => isVendorLdIndex reg
  | .rc _ => true
  | .addCard rom _ => decide (minRomLen ≤ rom.length)
  | .setCsn _ _ => true
  | .machineInit => true
  | .machineTeardown => true

end Sys2Proof
end

