-- ==== Sys2Proof/Decode.lean ====
section
/-! DEFINITION. Decoding (spec R90 to R97) and, after it, the encoder.

An operation is written as a record of bytes: the 11-bit selector {class, reg} of R96 as two bytes, low byte first
(the register index, then the class in bits 2:0), then the operand bytes. The selector is the spec's; the layout of the
operands behind it is the model's own (DESIGN CHOICE, log 11), since the block decodes no instruction words (R96, D20):
AW and DW carry the byte written, RC the address read, low byte first, add_card a byte of hook flags and then the whole
ROM buffer, set_csn the CSN and then the card handle, low byte first. -/

namespace Sys2Proof

/-- Why a record of bytes is no operation. -/
inductive DecodeError where
  /-- The record ends before the operation's last operand byte. -/
  | truncated
  /-- Bits 15:11 above the selector are not zero. -/
  | reservedSelectorBits
  /-- Bits 7:4 of the hook byte of add_card are not zero. -/
  | reservedHookBits
deriving DecidableEq, Repr

/-- The classes of register indices (R95). -/
inductive RegClass where
  | setRdPort | serialIsolation | configControl | wake | resourceData | status | csn | ldn
  | unrecognized | vendorCard | activate | ioRangeCheck | generic | vendorLd
deriving DecidableEq, Repr

/-- The partition of the register index space (R95, R96); total by construction (R97). -/
def regClass (r : Byte) : RegClass :=
  if r.toNat = 0x00 then .setRdPort
  else if r.toNat = 0x01 then .serialIsolation
  else if r.toNat = 0x02 then .configControl
  else if r.toNat = 0x03 then .wake
  else if r.toNat = 0x04 then .resourceData
  else if r.toNat = 0x05 then .status
  else if r.toNat = 0x06 then .csn
  else if r.toNat = 0x07 then .ldn
  else if r.toNat ≤ 0x1F then .unrecognized
  else if r.toNat ≤ 0x2F then .vendorCard
  else if r.toNat = 0x30 then .activate
  else if r.toNat = 0x31 then .ioRangeCheck
  else if r.toNat ≤ 0x37 then .generic
  else if r.toNat ≤ 0x3F then .vendorLd
  else if r.toNat ≤ 0xEF then .generic
  else if r.toNat ≤ 0xFE then .vendorLd
  else .generic

/-- A DATA write of `v` with the index latch at `reg` (R92, R96 rows of class DW). -/
def decodeDataWrite (reg v : Byte) : Instr :=
  match regClass reg with
  | .setRdPort => .dwSetRdPort v
  | .serialIsolation => .dwSerialIsolation v
  | .configControl => .dwConfigControl v
  | .wake => .dwWake v
  | .resourceData => .dwResourceData v
  | .status => .dwStatus v
  | .csn => .dwCsn v
  | .ldn => .dwLdn v
  | .unrecognized => .dwUnrecognized reg v
  | .vendorCard => .dwVendorCard reg v
  | .activate => .dwActivate v
  | .ioRangeCheck => .dwIoRangeCheck v
  | .generic => .dwGeneric reg v
  | .vendorLd => .dwVendorLd reg v

/-- A DATA read with the index latch at `reg` (R93, R96 rows of class DR). -/
def decodeDataRead (reg : Byte) : Instr :=
  match regClass reg with
  | .setRdPort => .drSetRdPort
  | .serialIsolation => .drSerialIsolation
  | .configControl => .drConfigControl
  | .wake => .drWake
  | .resourceData => .drResourceData
  | .status => .drStatus
  | .csn => .drCsn
  | .ldn => .drLdn
  | .unrecognized => .drUnrecognized reg
  | .vendorCard => .drVendorCard reg
  | .activate => .drActivate
  | .ioRangeCheck => .drIoRangeCheck
  | .generic => .drGeneric reg
  | .vendorLd => .drVendorLd reg

/-- The hook flags of add_card from their byte (R49, log 11). -/
def decodeHooks (b : Byte) : Hooks :=
  { cfgCb := b.getLsbD 0, csnCb := b.getLsbD 1, vendorRead := b.getLsbD 2, vendorWrite := b.getLsbD 3 }

/-- Two bytes, the low one first. -/
def word16 (lo hi : Byte) : BitVec 16 := hi ++ lo

/-- Four bytes, the low one first. -/
def word32 (b0 b1 b2 b3 : Byte) : BitVec 32 := b3 ++ b2 ++ b1 ++ b0

/-- Reads one operation from the head of a record and gives it with the bytes after it. add_card takes every byte after
its hook flags as the ROM buffer. -/
def decode : List Byte → Except DecodeError (Instr × List Byte)
  | reg :: cls :: args =>
    match cls.toNat, args with
    | 0, v :: rest => .ok (.aw v, rest)
    | 1, v :: rest => .ok (decodeDataWrite reg v, rest)
    | 2, rest => .ok (decodeDataRead reg, rest)
    | 3, lo :: hi :: rest => .ok (.rc (word16 lo hi), rest)
    | 4, hooks :: rom =>
      if hooks.toNat < 16 then .ok (.addCard rom (decodeHooks hooks), []) else .error .reservedHookBits
    | 5, csn :: h0 :: h1 :: h2 :: h3 :: rest => .ok (.setCsn (word32 h0 h1 h2 h3) csn, rest)
    | 6, rest => .ok (.machineInit, rest)
    | 7, rest => .ok (.machineTeardown, rest)
    | n, _ => if n < 8 then .error .truncated else .error .reservedSelectorBits
  | _ => .error .truncated

/-- The low `n` bytes of `w`, the lowest first. -/
def leBytes : Nat → Nat → List Byte
  | 0, _ => []
  | n + 1, w => BitVec.ofNat 8 w :: leBytes n (w / 256)

/-- The longest record whose operand bits are all zero: add_card with the nine-byte ROM. -/
def tableRecordLen : Nat := 12

/-- The record of a row's word: its `nbits` bits, every bit above them 0. -/
def tableRecord (nbits w : Nat) : List Byte := leBytes tableRecordLen (w % 2 ^ nbits)

/-- The operation the decoder reads from a row's word, bit 0 of `w` the selector's bit 0. -/
def decodeTableWord (nbits w : Nat) : Option Instr :=
  match decode (tableRecord nbits w) with
  | .ok (i, _) => some i
  | .error _ => none

/-! The encoder. -/

/-- The hook byte of add_card (log 11). -/
def encodeHooks (h : Hooks) : Byte :=
  BitVec.ofNat 8 (h.cfgCb.toNat + 2 * h.csnCb.toNat + 4 * h.vendorRead.toNat + 8 * h.vendorWrite.toNat)

/-- A record with the selector {cls, reg} (R96). -/
def record (cls reg : Byte) (operands : List Byte) : List Byte := reg :: cls :: operands

/-- The record of an operation; don't-care selector bits are 0. -/
def encode : Instr → List Byte
  | .aw v => record 0 0 [v]
  | .dwSetRdPort v => record 1 0x00 [v]
  | .dwSerialIsolation v => record 1 0x01 [v]
  | .dwConfigControl v => record 1 0x02 [v]
  | .dwWake v => record 1 0x03 [v]
  | .dwResourceData v => record 1 0x04 [v]
  | .dwStatus v => record 1 0x05 [v]
  | .dwCsn v => record 1 0x06 [v]
  | .dwLdn v => record 1 0x07 [v]
  | .dwUnrecognized reg v => record 1 reg [v]
  | .dwVendorCard reg v => record 1 reg [v]
  | .dwActivate v => record 1 0x30 [v]
  | .dwIoRangeCheck v => record 1 0x31 [v]
  | .dwGeneric reg v => record 1 reg [v]
  | .dwVendorLd reg v => record 1 reg [v]
  | .drSetRdPort => record 2 0x00 []
  | .drSerialIsolation => record 2 0x01 []
  | .drConfigControl => record 2 0x02 []
  | .drWake => record 2 0x03 []
  | .drResourceData => record 2 0x04 []
  | .drStatus => record 2 0x05 []
  | .drCsn => record 2 0x06 []
  | .drLdn => record 2 0x07 []
  | .drUnrecognized reg => record 2 reg []
  | .drVendorCard reg => record 2 reg []
  | .drActivate => record 2 0x30 []
  | .drIoRangeCheck => record 2 0x31 []
  | .drGeneric reg => record 2 reg []
  | .drVendorLd reg => record 2 reg []
  | .rc a => record 3 0 [a.extractLsb' 0 8, a.extractLsb' 8 8]
  | .addCard rom hooks => record 4 0 (encodeHooks hooks :: rom)
  | .setCsn card csn =>
    record 5 0 [csn, card.extractLsb' 0 8, card.extractLsb' 8 8, card.extractLsb' 16 8, card.extractLsb' 24 8]
  | .machineInit => record 6 0 []
  | .machineTeardown => record 7 0 []

/-! The opcode table as the spec prints it (R96; spec/opcode_table.json), for R97's claim that its rows neither overlap
nor leave a gap. -/

/-- One row: a selector matches when its bits under `mask` are those of `pattern`. -/
structure SelectorRow where
  mnemonic : String
  pattern : Selector
  mask : Selector
deriving DecidableEq, Repr

/-- The row matches the selector. -/
def SelectorRow.applies (row : SelectorRow) (sel : Selector) : Bool := sel &&& row.mask == row.pattern

/-- The rows of class DW. -/
def dataWriteRows : List SelectorRow := [
  ⟨"DW.SET_RD_PORT", 0x100, 0x7FF⟩, ⟨"DW.SERIAL_ISOLATION", 0x101, 0x7FF⟩, ⟨"DW.CONFIG_CONTROL", 0x102, 0x7FF⟩,
  ⟨"DW.WAKE", 0x103, 0x7FF⟩, ⟨"DW.RESOURCE_DATA", 0x104, 0x7FF⟩, ⟨"DW.STATUS", 0x105, 0x7FF⟩,
  ⟨"DW.CSN", 0x106, 0x7FF⟩, ⟨"DW.LDN", 0x107, 0x7FF⟩,
  ⟨"DW.UNRECOGNIZED", 0x108, 0x7F8⟩, ⟨"DW.UNRECOGNIZED", 0x110, 0x7F0⟩, ⟨"DW.VENDOR_CARD", 0x120, 0x7F0⟩,
  ⟨"DW.ACTIVATE", 0x130, 0x7FF⟩, ⟨"DW.IO_RANGE_CHECK", 0x131, 0x7FF⟩,
  ⟨"DW.GENERIC", 0x132, 0x7FE⟩, ⟨"DW.GENERIC", 0x134, 0x7FC⟩, ⟨"DW.VENDOR_LD", 0x138, 0x7F8⟩,
  ⟨"DW.GENERIC", 0x140, 0x7C0⟩, ⟨"DW.GENERIC", 0x180, 0x7C0⟩, ⟨"DW.GENERIC", 0x1C0, 0x7E0⟩,
  ⟨"DW.GENERIC", 0x1E0, 0x7F0⟩, ⟨"DW.VENDOR_LD", 0x1F0, 0x7F8⟩, ⟨"DW.VENDOR_LD", 0x1F8, 0x7FC⟩,
  ⟨"DW.VENDOR_LD", 0x1FC, 0x7FE⟩, ⟨"DW.VENDOR_LD", 0x1FE, 0x7FF⟩, ⟨"DW.GENERIC", 0x1FF, 0x7FF⟩]

/-- The rows of class DR. -/
def dataReadRows : List SelectorRow := [
  ⟨"DR.SET_RD_PORT", 0x200, 0x7FF⟩, ⟨"DR.SERIAL_ISOLATION", 0x201, 0x7FF⟩, ⟨"DR.CONFIG_CONTROL", 0x202, 0x7FF⟩,
  ⟨"DR.WAKE", 0x203, 0x7FF⟩, ⟨"DR.RESOURCE_DATA", 0x204, 0x7FF⟩, ⟨"DR.STATUS", 0x205, 0x7FF⟩,
  ⟨"DR.CSN", 0x206, 0x7FF⟩, ⟨"DR.LDN", 0x207, 0x7FF⟩,
  ⟨"DR.UNRECOGNIZED", 0x208, 0x7F8⟩, ⟨"DR.UNRECOGNIZED", 0x210, 0x7F0⟩, ⟨"DR.VENDOR_CARD", 0x220, 0x7F0⟩,
  ⟨"DR.ACTIVATE", 0x230, 0x7FF⟩, ⟨"DR.IO_RANGE_CHECK", 0x231, 0x7FF⟩,
  ⟨"DR.GENERIC", 0x232, 0x7FE⟩, ⟨"DR.GENERIC", 0x234, 0x7FC⟩, ⟨"DR.VENDOR_LD", 0x238, 0x7F8⟩,
  ⟨"DR.GENERIC", 0x240, 0x7C0⟩, ⟨"DR.GENERIC", 0x280, 0x7C0⟩, ⟨"DR.GENERIC", 0x2C0, 0x7E0⟩,
  ⟨"DR.GENERIC", 0x2E0, 0x7F0⟩, ⟨"DR.VENDOR_LD", 0x2F0, 0x7F8⟩, ⟨"DR.VENDOR_LD", 0x2F8, 0x7FC⟩,
  ⟨"DR.VENDOR_LD", 0x2FC, 0x7FE⟩, ⟨"DR.VENDOR_LD", 0x2FE, 0x7FF⟩, ⟨"DR.GENERIC", 0x2FF, 0x7FF⟩]

/-- The 56 rows of the table. -/
def selectorRows : List SelectorRow :=
  ⟨"AW", 0x000, 0x700⟩ :: dataWriteRows ++ dataReadRows ++
    [⟨"RC", 0x300, 0x700⟩, ⟨"add_card", 0x400, 0x700⟩, ⟨"set_csn", 0x500, 0x700⟩,
     ⟨"machine_init", 0x600, 0x700⟩, ⟨"machine_teardown", 0x700, 0x700⟩]

/-- The mnemonic of an operation, as the table spells it (R96). -/
def mnemonicOf : Instr → String
  | .aw _ => "AW"
  | .dwSetRdPort _ => "DW.SET_RD_PORT"
  | .dwSerialIsolation _ => "DW.SERIAL_ISOLATION"
  | .dwConfigControl _ => "DW.CONFIG_CONTROL"
  | .dwWake _ => "DW.WAKE"
  | .dwResourceData _ => "DW.RESOURCE_DATA"
  | .dwStatus _ => "DW.STATUS"
  | .dwCsn _ => "DW.CSN"
  | .dwLdn _ => "DW.LDN"
  | .dwUnrecognized _ _ => "DW.UNRECOGNIZED"
  | .dwVendorCard _ _ => "DW.VENDOR_CARD"
  | .dwActivate _ => "DW.ACTIVATE"
  | .dwIoRangeCheck _ => "DW.IO_RANGE_CHECK"
  | .dwGeneric _ _ => "DW.GENERIC"
  | .dwVendorLd _ _ => "DW.VENDOR_LD"
  | .drSetRdPort => "DR.SET_RD_PORT"
  | .drSerialIsolation => "DR.SERIAL_ISOLATION"
  | .drConfigControl => "DR.CONFIG_CONTROL"
  | .drWake => "DR.WAKE"
  | .drResourceData => "DR.RESOURCE_DATA"
  | .drStatus => "DR.STATUS"
  | .drCsn => "DR.CSN"
  | .drLdn => "DR.LDN"
  | .drUnrecognized _ => "DR.UNRECOGNIZED"
  | .drVendorCard _ => "DR.VENDOR_CARD"
  | .drActivate => "DR.ACTIVATE"
  | .drIoRangeCheck => "DR.IO_RANGE_CHECK"
  | .drGeneric _ => "DR.GENERIC"
  | .drVendorLd _ => "DR.VENDOR_LD"
  | .rc _ => "RC"
  | .addCard _ _ => "add_card"
  | .setCsn _ _ => "set_csn"
  | .machineInit => "machine_init"
  | .machineTeardown => "machine_teardown"

end Sys2Proof
end

