-- ==== Sys2Proof/Config.lean ====
section
/-! DEFINITION. The parameters of the machine (spec R6) and the one free value of the model. The parameters are a
record that the state carries unchanged, so that a statement about every state is a statement about every setting
of them, as R6 asks ("keep as an argument and not hard-wire into a theorem statement"); log 2. The default values stand
in Sys2Proof/Machine/Params.lean. -/

namespace Sys2Proof

/-- How a clear flag of a later alternative for one memory slot acts on the upper-limit mask (R248, decision D7). -/
inductive UlMaskMerge where
  /-- A clear flag leaves the bit as it is. -/
  | or
  /-- A clear flag clears the bit. -/
  | assign
deriving DecidableEq, Repr

/-- The open parameters of R6, fixed for a machine. -/
structure Params where
  /-- `ADDRESS_PORT` (D1). -/
  addressPort : Port
  /-- `WRITE_DATA_PORT` (D1). -/
  writeDataPort : Port
  /-- `KEY[0..31]` (R8, D2). -/
  key : Vector Byte 32
  /-- `LFSR_TAP_A` (R184, D3). -/
  lfsrTapA : Fin 8
  /-- `LFSR_TAP_B` (R184, D3). -/
  lfsrTapB : Fin 8
  /-- `PULSE2_ZERO` (R182, D4). -/
  pulse2Zero : Byte
  /-- `DMA_REG0` (R252, D5). -/
  dmaReg0 : Byte
  /-- `DMA_REG1` (R252, D5). -/
  dmaReg1 : Byte
  /-- `DMA_DISABLED` (R252, D5). -/
  dmaDisabled : Byte
  /-- `ROM_POS_AFTER_ISOLATION` (R187, D6). -/
  romPosAfterIsolation : Option Nat
  /-- `UL_MASK_MERGE` (R248, D7). -/
  ulMaskMerge : UlMaskMerge
  /-- `VENDOR_CARD_LDN` (R200, R201, D8). -/
  vendorCardLdn : Byte
deriving DecidableEq, Repr

/-- DESIGN CHOICE (log 5). The byte the environment answers to the n-th vendor-read question: a free value without a
body (R51: "returns one byte chosen by the card's driver"; U5: any value). -/
opaque Config.vendorByte : Nat → Byte

end Sys2Proof
end

