-- ==== Sys2Proof/Machine/Params.lean ====
section
/-! DEFINITION. The constants the spec fixes (R6, rows grounded in D0) and the default setting of its open parameters
(R6, R8). No statement may rest on a default: the state carries the setting in a field (log 2). -/

namespace Sys2Proof.Machine

/-- The key of R8, from the recurrence's table. PRESUMED by the spec (general knowledge, D2). -/
def defaultKey : Vector Byte 32 :=
  #v[0x6A, 0xB5, 0xDA, 0xED, 0xF6, 0xFB, 0x7D, 0xBE, 0xDF, 0x6F, 0x37, 0x1B, 0x0D, 0x86, 0xC3, 0x61,
     0xB0, 0x58, 0x2C, 0x16, 0x8B, 0x45, 0xA2, 0xD1, 0xE8, 0x74, 0x3A, 0x9D, 0xCE, 0xE7, 0x73, 0x39]

/-- The default value of every open parameter (R6). -/
def defaultParams : Params :=
  { addressPort := 0x0279
    writeDataPort := 0x0A79
    key := defaultKey
    lfsrTapA := 5
    lfsrTapB := 6
    pulse2Zero := 0x00
    dmaReg0 := 0x74
    dmaReg1 := 0x75
    dmaDisabled := 0x04
    romPosAfterIsolation := some 9
    ulMaskMerge := .or
    vendorCardLdn := 0x00 }

/-- `READ_PORT_MIN` (R6). -/
def readPortMin : Port := 0x0203

/-- `READ_PORT_MAX` (R6). -/
def readPortMax : Port := 0x03FF

/-- The identity bits among the serial bits: positions 0 to 63 (R183). -/
def identityBits : Nat := 64

/-- The position whose first pulse stores the checksum, and the header byte it stores into (R185). -/
def checksumByte : Nat := 8

/-- `PULSE1_ONE` (R182). -/
def pulse1One : Byte := 0x55

/-- `PULSE1_ZERO` (R182). -/
def pulse1Zero : Byte := 0x00

/-- `PULSE2_ONE` (R182). -/
def pulse2One : Byte := 0xAA

/-- `MAX_MEM_SLOTS`, per family (R248). -/
def maxMemSlots : Nat := 4

/-- `UL_OFFSETS[0..7]`: the control byte of each memory slot, mask bit k at position k (R42). -/
def ulOffsets : List Byte := [0x42, 0x4A, 0x52, 0x5A, 0x7A, 0x84, 0x94, 0xA4]

/-- The sentinel of a read that fails its guard (R93, R281). -/
def readSentinel : Byte := 0xFF

/-- The sentinel of the status and CSN query reads (R150, R151). -/
def querySentinel : Byte := 0x00

/-- Index 0x30, Activate (R43). -/
def activateReg : Byte := 0x30

/-- Index 0x31, I/O Range Check (R43). -/
def rangeCheckReg : Byte := 0x31

/-- The descriptor stream starts behind the header (R244). -/
def descriptorStart : Nat := 9

end Sys2Proof.Machine
end

