-- ==== Sys2Proof/Machine/State.lean ====
section
/-! DEFINITION. The state of the machine: everything the spec gives the controller, its cards and their logical devices
(R20 to R43), the machine's fixed parameters (log 2), the outside world's pending accesses (log 1) and the outputs of the
last operation (log 4). -/

namespace Sys2Proof.Machine

/-- The 256-byte register file of a logical device (R40) as (index, byte) cells in one canonical form: indices strictly
rising, no cell holding what an unlisted index reads as (log 15). -/
abbrev Memory := List Host.Cell

/-- The protocol states of a card (R31). -/
inductive CardState where
  | waitForKey | sleep | isolation | config
deriving DecidableEq, Repr

/-- The two kinds of fatal configuration error (R285). -/
inductive FatalKind where
  /-- `DW.LDN` with a number no logical device of the CONFIG card has. -/
  | unknownLdn
  /-- A fifth memory-range item of one family for one logical device. -/
  | tooManyMemSlots
deriving DecidableEq, Repr

/-- One logical device of a card (R40). -/
structure LogicalDevice where
  /-- `number`: assigned in descriptor order from 0 (R40). -/
  number : Byte
  /-- `regs`: the register file (R40, R41, R43). -/
  regs : Memory
  /-- `ul_mask`: which memory slots use upper-limit addressing (R42). -/
  ulMask : Byte
deriving DecidableEq, Repr

/-- One attached card (R30). The driver's handle is the card's index in the chain (R49, log 20). -/
structure Card where
  /-- `state` (R31). -/
  state : CardState
  /-- `csn` (R33). -/
  csn : Byte
  /-- `id_checksum` (R34). -/
  idChecksum : Byte
  /-- `serial_pos` (R35). -/
  serialPos : Fin 72
  /-- `serial_pair`: true when the next pulse is the second of its bit (R36). -/
  serialPair : Bool
  /-- `serial_latch` (R37). -/
  serialLatch : Bool
  /-- `rom`; `rom_len` is its length (R38). -/
  rom : List Byte
  /-- `rom_pos` (R39). -/
  romPos : Nat
  /-- `lds` (R40). -/
  lds : List LogicalDevice
  /-- `has_cfg_cb`, `has_csn_cb`, `has_vr`, `has_vw` (R49). -/
  hooks : Hooks
deriving DecidableEq, Repr

/-- A reference to a logical device: its card's chain index and its own index on the card (R27). -/
structure DeviceRef where
  card : Nat
  device : Nat
deriving DecidableEq, Repr

/-- A memory range of the projection: base and size (R256). -/
structure MemRange where
  base : BitVec 32
  size : BitVec 32
deriving DecidableEq, Repr

/-- An IRQ descriptor of the projection (R256). -/
structure IrqSelect where
  /-- The interrupt line. -/
  line : Byte
  /-- Bit 1 of the type byte: active high. -/
  level : Bool
  /-- Bit 0 of the type byte: level triggered. -/
  type : Bool
deriving DecidableEq, Repr

/-- What a configuration-changed callback is told of a device (R256). Never kept in the state's architecture: it lives
in an event (R52). -/
structure Projection where
  activate : Bool
  mem : Vector MemRange 4
  mem32 : Vector MemRange 4
  io : Vector (BitVec 16) 8
  irq : Vector IrqSelect 2
  dma : Vector Byte 2
deriving DecidableEq, Repr

/-- The output events (R50). A card is named by its chain index. -/
inductive Event where
  | csnChanged (card : Nat) (csn : Byte)
  | configChanged (card : Nat) (ldn : Byte) (projection : Projection)
  | vendorWrite (card : Nat) (ldn reg value : Byte)
  /-- R284; `info` is the missing number, respectively the family 16 or 32 (R285). -/
  | fatal (kind : FatalKind) (info : Byte)
deriving DecidableEq, Repr

/-- What an operation returns: a byte on the bus, or the handle of the card just attached. -/
inductive Reply where
  | byte (b : Byte)
  | card (handle : Nat)
deriving DecidableEq, Repr

/-- The question put to a vendor-read hook (R51). -/
structure VendorAsk where
  card : Nat
  ldn : Byte
  reg : Byte
deriving DecidableEq, Repr

/-- Direction of a bus cycle. -/
inductive Direction where
  | read | write
deriving DecidableEq, Repr

/-- Width of a bus cycle wider than the ports (R66). -/
inductive WideWidth where
  | word | dword
deriving DecidableEq, Repr

/-- What the outside world can issue to the block: bus cycles and host calls (R90; log 1). -/
inductive Request where
  /-- A one-byte write of `v` to I/O address `port`. -/
  | write (port : Port) (v : Byte)
  /-- A one-byte read of I/O address `port`. -/
  | read (port : Port)
  /-- A 16-bit or 32-bit access at I/O address `port` (R66). -/
  | wide (dir : Direction) (width : WideWidth) (port : Port)
  | addCard (rom : List Byte) (hooks : Hooks)
  | setCsn (card : BitVec 32) (csn : Byte)
  | machineInit
  | machineTeardown
deriving DecidableEq, Repr

/-- The machine's state. -/
structure State where
  /-- `reg`, the latched register index (R22). -/
  reg : Byte
  /-- `key_pos` (R23). -/
  keyPos : BitVec 5
  /-- `read_port`, 0 while unmapped (R25). -/
  readPort : Port
  /-- `cards`, the first attached first (R21). -/
  cards : List Card
  /-- `isolated`, a chain index (R26). -/
  isolated : Option Nat
  /-- `cur_ld` (R27). -/
  curLd : Option DeviceRef
  /-- `fault` (R28). -/
  fault : Option FatalKind
  /-- The controller exists: created by machine_init, destroyed by machine_teardown (R20, R300; log 10). -/
  alive : Bool
  /-- The machine's parameters, never changed by any operation (R6, R52; log 2). -/
  cfg : Params
  /-- What the outside world has issued and the block has not served, oldest first (log 1). -/
  pending : List Request
  /-- The events of the last operation, in order (R50; log 4). -/
  events : List Event
  /-- What the last operation returned (log 4). -/
  ret : Option Reply
  /-- The vendor-read question of the last operation (R51; log 4). -/
  asked : Option VendorAsk
  /-- How many vendor bytes have been asked for (log 5). -/
  asks : Nat
deriving DecidableEq, Repr

/-- Why the machine stops. -/
inductive Fault where
  /-- Raised by every operation but machine_init once a fatal configuration error has been taken: "no operation is
  defined on a faulted controller" (R286, U8). Safe: the model stops where the spec says the session is over. -/
  | sessionOver (kind : FatalKind)
  /-- Raised by every operation but machine_init after machine_teardown: no controller exists (R300). Safe: the model
  stops where the spec has nothing (log 10). -/
  | noController
deriving DecidableEq, Repr

/-- Why an input has no meaning. -/
inductive Refusal where
  /-- Raised by an arm of `exec` without a meaning (there is none left). Safe. -/
  | notModelled (mnemonic : String)
  /-- Raised by add_card on a ROM shorter than its nine header bytes: "a precondition the model refuses to run without"
  (D16, U9). Safe. -/
  | romTooShort (length : Nat)
  /-- Raised by the step for a read of an address the block claims twice, or a write where the two fixed ports
  coincide (R206, R321, U2). Safe (log 7). -/
  | portOverlap (port : Port)
  /-- Raised by the step for a 16-bit or 32-bit access that covers a port of the block (R66, D18, U10). Safe (log 8). -/
  | wideAccess (port : Port)
  /-- Raised by the step for a record the decoder refuses; the step builds none (log 11). Safe. -/
  | undecodable (reason : DecodeError)
deriving DecidableEq, Repr

/-- The machine after machine_init (R301). -/
def State.reset : State :=
  { reg := 0x00
    keyPos := 0
    readPort := 0
    cards := []
    isolated := none
    curLd := none
    fault := none
    alive := true
    cfg := defaultParams
    pending := []
    events := []
    ret := none
    asked := none
    asks := 0 }

end Sys2Proof.Machine
end

