-- ==== Sys2Proof/Machine/Operands.lean ====
section
/-! DEFINITION. How each operation uses its operand byte (R98): the only operand of a DATA or ADDRESS write. An operand
used unchanged (a CSN, a device number, a generic byte) needs no function. -/

namespace Sys2Proof.Machine

/-- The address a Set Read-Data write names: `(zext_16(v) << 2) | 3` (R141). -/
def readPortAddress (v : Byte) : Port := (v.setWidth 16 <<< 2) ||| 3

/-- What a Set Read-Data write of `v` leaves in `read_port`: the address, or 0 outside [0x0203, 0x03FF] (R141). -/
def mappedReadPort (v : Byte) : Port :=
  if readPortMin ≤ readPortAddress v ∧ readPortAddress v ≤ readPortMax then readPortAddress v else 0

/-- Command bit 0 of Config Control: Reset (R143, R144). -/
def commandReset (v : Byte) : Bool := v.getLsbD 0

/-- Command bit 1 of Config Control: Return to Wait-For-Key (R143, R145). -/
def commandWaitForKey (v : Byte) : Bool := v.getLsbD 1

/-- Command bit 2 of Config Control: Reset CSN (R143, R146). -/
def commandResetCsn (v : Byte) : Bool := v.getLsbD 2

end Sys2Proof.Machine
end

