-- ==== Sys2Proof/Machine/Memory.lean ====
section
/-! DEFINITION. Reading and writing a register file kept as canonical cells (R40, R41; log 15). -/

namespace Sys2Proof.Machine

/-- What an unlisted index reads as: 0x00, the byte the defaults routine puts everywhere first (R252). -/
def Memory.unlisted : Byte := 0x00

/-- The byte at an index. -/
def Memory.read : Memory → Nat → Byte
  | [], _ => Memory.unlisted
  | (k, b) :: m, a => if k = a then b else Memory.read m a

/-- Puts a cell in front unless it holds what an unlisted index reads as. -/
def Memory.cons (a : Nat) (v : Byte) (m : Memory) : Memory :=
  if v = Memory.unlisted then m else (a, v) :: m

/-- Stores a byte at an index, keeping the form canonical. -/
def Memory.write : Memory → Nat → Byte → Memory
  | [], a, v => Memory.cons a v []
  | (k, b) :: m, a, v =>
    if a < k then Memory.cons a v ((k, b) :: m)
    else if a = k then Memory.cons a v m
    else (k, b) :: Memory.write m a v

/-- The canonical form: indices strictly rising, no cell equal to what an unlisted index reads as. -/
abbrev Memory.wf (m : Memory) : Prop :=
  m.Pairwise (fun x y => x.1 < y.1) ∧ ∀ c ∈ m, c.2 ≠ Memory.unlisted

/-- Every listed index is one of the 256 of a register file (R40). -/
abbrev Memory.within256 (m : Memory) : Prop := ∀ c ∈ m, c.1 < 256

/-- `ld.regs[r]` (R11). -/
def LogicalDevice.reg (d : LogicalDevice) (r : Byte) : Byte := Memory.read d.regs r.toNat

/-- `ld.regs[r] <- v` (R11). -/
def LogicalDevice.setReg (d : LogicalDevice) (r v : Byte) : LogicalDevice :=
  { d with regs := Memory.write d.regs r.toNat v }

end Sys2Proof.Machine
end

