-- ==== Sys2Proof/Machine/Flags.lean ====
section
/-! DEFINITION. The one-bit fields of the register file (R43, R44): which bits a write keeps, the eight read-only
upper-limit flags, the range-check bits; and the checksum register's feedback bit (R184). The block has no condition
codes (R44). -/

namespace Sys2Proof.Machine

/-- The bits of an Activate write that are stored: bit 0 (R203). -/
def activateBits (v : Byte) : Byte := v &&& 0x01

/-- The bits of an I/O Range Check write that are stored: bits 1:0 (R205). -/
def rangeCheckBits (v : Byte) : Byte := v &&& 0x03

/-- The index is one of the eight whose bit 0 is read-only (R210). -/
def isUpperLimitOffset (r : Byte) : Bool := ulOffsets.contains r

/-- What a generic write of `v` stores at index `r` over the byte `old` (R210). -/
def genericStored (r old v : Byte) : Byte :=
  if isUpperLimitOffset r then (v &&& 0xFE) ||| (old &&& 0x01) else v

/-- Range-check enable: bit 1 of register 0x31 (R206). -/
def rangeCheckEnabled (d : LogicalDevice) : Bool := (d.reg rangeCheckReg).getLsbD 1

/-- The byte an enabled responder answers: 0x55 when bit 0 of register 0x31 is set, else 0xAA (R206). -/
def rangeCheckPattern (d : LogicalDevice) : Byte := if (d.reg rangeCheckReg).getLsbD 0 then 0x55 else 0xAA

/-- One step of the running checksum: shift right, feedback into bit 7, taps taken before the shift (R184). -/
def lfsrStep (p : Params) (ck : Byte) (bit : Bool) : Byte :=
  (ck >>> 1) ||| ((BitVec.ofBool ((ck.getLsbD p.lfsrTapA.val ^^ ck.getLsbD p.lfsrTapB.val) ^^ bit)).setWidth 8 <<< 7)

/-- The first pulse of a bit (R182). -/
def firstPulse (bit : Bool) : Byte := if bit then pulse1One else pulse1Zero

/-- The second pulse of a bit (R182, D4). -/
def secondPulse (p : Params) (bit : Bool) : Byte := if bit then pulse2One else p.pulse2Zero

/-- Bit `k` of an upper-limit mask set (R248). -/
def setMaskBit (mask : Byte) (k : Nat) : Byte := mask ||| ((1 : Byte) <<< k)

/-- Bit `k` of an upper-limit mask cleared (R248, `UL_MASK_MERGE` = assign). -/
def clearMaskBit (mask : Byte) (k : Nat) : Byte := mask &&& ~~~((1 : Byte) <<< k)

end Sys2Proof.Machine
end

