-- ==== Sys2Proof/Machine/Projection.lean ====
section
/-! DEFINITION. The register defaults (R252) and the configuration projection (R256), both functions of one logical
device. -/

namespace Sys2Proof.Machine

/-- Forces the low bit of register `r` on (R252). -/
def LogicalDevice.forceLowBit (d : LogicalDevice) (r : Byte) : LogicalDevice := d.setReg r (d.reg r ||| 0x01)

/-- Forces the flag of every slot whose mask bit is set, slot `k` first (R252). -/
def LogicalDevice.forceFlags : Nat → List Byte → LogicalDevice → LogicalDevice
  | _, [], d => d
  | k, r :: rs, d => LogicalDevice.forceFlags (k + 1) rs (if d.ulMask.getLsbD k then d.forceLowBit r else d)

/-- `reset_ld_regs`: every byte 0, the two DMA selects disabled, the upper-limit flags from the mask (R252). -/
def resetLdRegs (p : Params) (d : LogicalDevice) : LogicalDevice :=
  LogicalDevice.forceFlags 0 ulOffsets
    ((({ d with regs := [] } : LogicalDevice).setReg p.dmaReg0 p.dmaDisabled).setReg p.dmaReg1 p.dmaDisabled)

/-- The size a memory range exposes: limit minus base, wrapping, for an upper-limit slot, else the length (R256, D35). -/
def rangeSize (d : LogicalDevice) (k : Nat) (base lim : BitVec 32) : BitVec 32 :=
  if d.ulMask.getLsbD k then lim - base else lim

/-- Two register bytes as bits 23:8 of an address (R256). -/
def address24 (d : LogicalDevice) (o : Byte) : BitVec 32 := (0 : Byte) ++ d.reg o ++ d.reg (o + 1) ++ (0 : Byte)

/-- Four register bytes, the high one first (R65, R256). -/
def address32 (d : LogicalDevice) (o : Byte) : BitVec 32 :=
  d.reg o ++ d.reg (o + 1) ++ d.reg (o + 2) ++ d.reg (o + 3)

/-- 16-bit memory slot with mask bit `k`, first register `o` (R43, R256). -/
def mem16Range (d : LogicalDevice) (k : Nat) (o : Byte) : MemRange :=
  { base := address24 d o, size := rangeSize d k (address24 d o) (address24 d (o + 3)) }

/-- 32-bit memory slot with mask bit `k`, first register `o` (R43, R256). -/
def mem32Range (d : LogicalDevice) (k : Nat) (o : Byte) : MemRange :=
  { base := address32 d o, size := rangeSize d k (address32 d o) (address32 d (o + 5)) }

/-- The base of I/O range `i`, high byte first (R43, R206, R256). -/
def ioBase (d : LogicalDevice) (i : Nat) : BitVec 16 :=
  d.reg (BitVec.ofNat 8 (0x60 + 2 * i)) ++ d.reg (BitVec.ofNat 8 (0x61 + 2 * i))

/-- IRQ select whose line register is `o` (R256). -/
def irqSelect (d : LogicalDevice) (o : Byte) : IrqSelect :=
  { line := d.reg o, level := (d.reg (o + 1)).getLsbD 1, type := (d.reg (o + 1)).getLsbD 0 }

/-- The configuration projection of a device's registers and mask (R256). -/
def project (d : LogicalDevice) : Projection :=
  { activate := (d.reg activateReg).getLsbD 0
    mem := #v[mem16Range d 0 0x40, mem16Range d 1 0x48, mem16Range d 2 0x50, mem16Range d 3 0x58]
    mem32 := #v[mem32Range d 4 0x76, mem32Range d 5 0x80, mem32Range d 6 0x90, mem32Range d 7 0xA0]
    io := #v[ioBase d 0, ioBase d 1, ioBase d 2, ioBase d 3, ioBase d 4, ioBase d 5, ioBase d 6, ioBase d 7]
    irq := #v[irqSelect d 0x70, irqSelect d 0x72]
    dma := #v[d.reg 0x74, d.reg 0x75] }

end Sys2Proof.Machine
end

