-- ==== Sys2Proof/Machine/RomParser.lean ====
section
/-! DEFINITION. The ROM parser run at attach (R241 to R251): the resource checksum, the tag-length-value stream, and the
logical devices it builds. -/

namespace Sys2Proof.Machine

/-- The additive checksum byte of a ROM of ten bytes or more: minus the sum of bytes 9 to length - 2 (R243). -/
def resourceChecksum (rom : List Byte) : Byte :=
  0 - ((rom.take (rom.length - 1)).drop descriptorStart).foldl (· + ·) 0

/-- Stores the resource checksum at byte length - 1; a nine-byte ROM is left alone (R243, D32). -/
def storeResourceChecksum (rom : List Byte) : List Byte :=
  if descriptorStart + 1 ≤ rom.length then rom.set (rom.length - 1) (resourceChecksum rom) else rom

/-- One item of the descriptor stream (R244). -/
structure RomItem where
  large : Bool
  tag : Nat
  payload : List Byte
deriving DecidableEq, Repr

/-- The first item of a stream and the bytes behind it; none where the stream is empty or its first item's header or
payload would pass the end (R244, D33). -/
def nextItem : List Byte → Option (RomItem × List Byte)
  | [] => none
  | b :: rest =>
    if b.getLsbD 7 then
      match rest with
      | lo :: hi :: more =>
        if (word16 lo hi).toNat ≤ more.length then
          some (⟨true, b.toNat % 128, more.take (word16 lo hi).toNat⟩, more.drop (word16 lo hi).toNat)
        else none
      | _ => none
    else if b.toNat % 8 ≤ rest.length then
      some (⟨false, b.toNat / 8 % 16, rest.take (b.toNat % 8)⟩, rest.drop (b.toNat % 8))
    else none

/-- The items of a stream; `fuel` bounds their number, and every item takes at least one byte (R244). -/
def romItems : Nat → List Byte → List RomItem
  | 0, _ => []
  | fuel + 1, bytes =>
    match nextItem bytes with
    | none => []
    | some (item, rest) => item :: romItems fuel rest

/-- The descriptor stream of a ROM, from offset 9 to the end of the buffer (R244). -/
def descriptorItems (rom : List Byte) : List RomItem := romItems rom.length (rom.drop descriptorStart)

/-- The two families of memory ranges (R42, R248). -/
inductive MemFamily where
  | bits16 | bits32
deriving DecidableEq, Repr

/-- The value a fatal error records of a family: 16 or 32 (R285). -/
def MemFamily.info : MemFamily → Byte
  | .bits16 => 16
  | .bits32 => 32

/-- The mask bit of the family's slot `n` (R42, R248). -/
def MemFamily.maskBit : MemFamily → Nat → Nat
  | .bits16, n => n
  | .bits32, n => 4 + n

/-- What the parser keeps while it reads one ROM (R244): the finished devices, the open one, the slot counters and
their saved copies, and whether a dependent-function group has been entered. -/
structure ParserState where
  finished : List LogicalDevice
  current : Option LogicalDevice
  m16 : Nat
  m32 : Nat
  s16 : Nat
  s32 : Nat
  inDf : Bool
deriving DecidableEq, Repr

/-- The parser before the first item (R244). -/
def ParserState.start : ParserState :=
  { finished := [], current := none, m16 := 0, m32 := 0, s16 := 0, s32 := 0, inDf := false }

/-- The devices built so far, the open one finalized with its defaults (R244, R252). -/
def ParserState.devices (p : Params) (ps : ParserState) : List LogicalDevice :=
  match ps.current with
  | none => ps.finished
  | some d => ps.finished ++ [resetLdRegs p d]

/-- Logical-device tag (R245, D34). The number is 8 bits wide (R40; log 16). -/
def ParserState.openDevice (p : Params) (ps : ParserState) : ParserState :=
  { ps with
    finished := ps.devices p
    current := some { number := BitVec.ofNat 8 (ps.devices p).length, regs := [], ulMask := 0 }
    m16 := 0
    m32 := 0
    inDf := false }

/-- Start-dependent-function tag: the first group saves the counters, a later one restores them (R246). -/
def ParserState.startDependent (ps : ParserState) : ParserState :=
  if ps.inDf then { ps with m16 := ps.s16, m32 := ps.s32 }
  else { ps with s16 := ps.m16, s32 := ps.m32, inDf := true }

/-- End-dependent-function tag: the counters stay as the last alternative left them (R247, D34). -/
def ParserState.endDependent (ps : ParserState) : ParserState := { ps with inDf := false }

/-- The next free slot of a family (R248). -/
def ParserState.slot (ps : ParserState) : MemFamily → Nat
  | .bits16 => ps.m16
  | .bits32 => ps.m32

/-- The family's counter one further (R248). -/
def ParserState.takeSlot (ps : ParserState) : MemFamily → ParserState
  | .bits16 => { ps with m16 := ps.m16 + 1 }
  | .bits32 => { ps with m32 := ps.m32 + 1 }

/-- The configuration flag of a memory item: bit 2 of its first payload byte, 0 for an empty payload (R248). -/
def upperLimitFlag : List Byte → Bool
  | [] => false
  | b :: _ => b.getLsbD 2

/-- The mask after an item for bit `k` with this flag (R248, D7). -/
def mergeMask (m : UlMaskMerge) (mask : Byte) (k : Nat) (flag : Bool) : Byte :=
  if flag then setMaskBit mask k
  else match m with
    | .or => mask
    | .assign => clearMaskBit mask k

/-- Memory-range tag of a family: skipped before the first device, fatal at the fifth slot (R248, R250, D33). -/
def ParserState.memoryRange (p : Params) (ps : ParserState) (fam : MemFamily) (payload : List Byte) :
    Except MemFamily ParserState :=
  match ps.current with
  | none => .ok ps
  | some d =>
    if maxMemSlots ≤ ps.slot fam then .error fam
    else .ok { ps.takeSlot fam with
      current := some { d with
        ulMask := mergeMask p.ulMaskMerge d.ulMask (fam.maskBit (ps.slot fam)) (upperLimitFlag payload) } }

/-- Acts on one item; every tag without a rule of its own is skipped (R245 to R249). -/
def ParserState.act (p : Params) (ps : ParserState) (item : RomItem) : Except MemFamily ParserState :=
  match item.large, item.tag with
  | false, 2 => .ok (ps.openDevice p)
  | false, 6 => .ok ps.startDependent
  | false, 7 => .ok ps.endDependent
  | true, 1 => ps.memoryRange p .bits16 item.payload
  | true, 5 => ps.memoryRange p .bits32 item.payload
  | _, _ => .ok ps

/-- Acts on the items in order, up to the first fatal one (R244, R250). -/
def ParserState.actAll (p : Params) : ParserState → List RomItem → Except MemFamily ParserState
  | ps, [] => .ok ps
  | ps, item :: items =>
    match ps.act p item with
    | .error fam => .error fam
    | .ok ps' => ParserState.actAll p ps' items

/-- `parse`: the logical devices of a ROM, or the family with a fifth slot (R244 to R250). -/
def parseRom (p : Params) (rom : List Byte) : Except MemFamily (List LogicalDevice) :=
  match ParserState.actAll p ParserState.start (descriptorItems rom) with
  | .error fam => .error fam
  | .ok ps => .ok (ps.devices p)

end Sys2Proof.Machine
end

