-- ==== Sys2Proof/Machine/Ops.lean ====
section
/-! DEFINITION. The operations every meaning is built from: the updates of the state, the scans (R12), the guards (R140,
R211, R281, R286, R315), the output events (R50), and taking a fatal error (R284). -/

namespace Sys2Proof.Machine

/-- What an operation answers. -/
abbrev Result := Host.Outcome State Fault Refusal

/-! ### Updates of the state -/

/-- A new operation starts with no event, no return value and no question (R50; log 4). -/
def State.clearOutputs (s : State) : State := { s with events := [], ret := none, asked := none }

/-- `reg <- v`. -/
def State.withReg (s : State) (v : Byte) : State := { s with reg := v }

/-- `key_pos <- v`. -/
def State.withKeyPos (s : State) (v : BitVec 5) : State := { s with keyPos := v }

/-- `read_port <- v`. -/
def State.withReadPort (s : State) (v : Port) : State := { s with readPort := v }

/-- `cards <- cs`. -/
def State.withCards (s : State) (cs : List Card) : State := { s with cards := cs }

/-- `isolated <- v`. -/
def State.withIsolated (s : State) (v : Option Nat) : State := { s with isolated := v }

/-- `cur_ld <- v`. -/
def State.withCurLd (s : State) (v : Option DeviceRef) : State := { s with curLd := v }

/-- Replaces the pending accesses. -/
def State.withPending (s : State) (rs : List Request) : State := { s with pending := rs }

/-- `emit`: appends events to the operation's list (R11, R50). -/
def State.emit (s : State) (es : List Event) : State := { s with events := s.events ++ es }

/-- The operation returns `r`. -/
def State.reply (s : State) (r : Reply) : State := { s with ret := some r }

/-- `ask VendorRead(q)`: records the question and counts it (R51; log 5). -/
def State.ask (s : State) (q : VendorAsk) : State := { s with asked := some q, asks := s.asks + 1 }

/-- The controller as machine_init creates it (R300, R301). What belongs to the outside world stays: the machine's
parameters, the accesses not yet served, the count of vendor answers (log 21). -/
def State.initialised (s : State) : State :=
  { State.reset with cfg := s.cfg, pending := s.pending, asks := s.asks }

/-- The controller destroyed with every card (R300; log 10). -/
def State.destroyed (s : State) : State := { s.initialised with alive := false }

/-! ### Endings of an operation -/

/-- The read returns `b` and the operation ends. -/
def answerByte (s : State) (b : Byte) : Result := .next (s.reply (.byte b))

/-- `drop`: the operation ends with no further change (R11, R281). -/
def dropped (s : State) : Result := .next s

/-- `raise Fatal(kind, info)`: taking a fatal configuration error. `fault` records the kind, the event carries the
value, and nothing else changes (R284, R285). There is no return from it (R289). -/
def raiseFatal (s : State) (kind : FatalKind) (info : Byte) : Result :=
  .next { s with fault := some kind, events := s.events ++ [.fatal kind info] }

/-! ### Guards common to operations -/

/-- Runs an operation on a controller that exists and has taken no fatal error (R286, R300), its outputs empty. -/
def operate (s : State) (body : State → Result) : Result :=
  if s.alive then
    match s.fault with
    | none => body s.clearOutputs
    | some kind => .fault (.sessionOver kind)
  else .fault .noController

/-- Runs a DATA read, which exists only while `read_port` is mapped: an unmapped read is not claimed, the block does not
answer it (R63, R315; log 6). -/
def dataRead (s : State) (body : State → Result) : Result :=
  operate s fun t => if t.readPort = 0 then dropped t else body t

/-- A DATA read of one fixed byte with no effect. -/
def constantRead (s : State) (b : Byte) : Result := dataRead s fun t => answerByte t b

/-- A DATA write with no effect (R142, R157). -/
def ignoredWrite (s : State) : Result := operate s dropped

/-! ### Scans and selections -/

/-- The first card in a state among `cs`, with its chain index counted from `n` (R12). -/
def firstCardFrom (st : CardState) : Nat → List Card → Option (Nat × Card)
  | _, [] => none
  | n, c :: cs => if c.state = st then some (n, c) else firstCardFrom st (n + 1) cs

/-- `first_card_in(S)` (R12). -/
def State.firstCardIn (s : State) (st : CardState) : Option (Nat × Card) := firstCardFrom st 0 s.cards

/-- `config_card()` (R12). -/
def State.configCard (s : State) : Option (Nat × Card) := s.firstCardIn .config

/-- Every later ADDRESS write is a key byte: the first card is in WAIT_FOR_KEY (R121). -/
def State.locked (s : State) : Bool :=
  match s.cards with
  | [] => false
  | c :: _ => decide (c.state = .waitForKey)

/-- The card `isolated` refers to, with its index (R26; log 14). -/
def State.isolatedCard (s : State) : Option (Nat × Card) :=
  match s.isolated with
  | none => none
  | some i => (s.cards[i]?).map fun c => (i, c)

/-- The selected device, its card and where they stand (R27, R211; log 14). -/
def State.currentDevice (s : State) : Option (DeviceRef × Card × LogicalDevice) :=
  match s.curLd with
  | none => none
  | some ref =>
    match s.cards[ref.card]? with
    | none => none
    | some c => (c.lds[ref.device]?).map fun d => (ref, c, d)

/-- Replaces the card at an index. -/
def State.setCard (s : State) (i : Nat) (c : Card) : State := s.withCards (s.cards.set i c)

/-- The card with its device at an index replaced. -/
def Card.setDevice (c : Card) (k : Nat) (d : LogicalDevice) : Card := { c with lds := c.lds.set k d }

/-- Replaces the device at a reference whose card is `c`. -/
def State.setDevice (s : State) (ref : DeviceRef) (c : Card) (d : LogicalDevice) : State :=
  s.setCard ref.card (c.setDevice ref.device d)

/-! ### Output events -/

/-- `ConfigChanged(card, ldn, projection)` where the card registered the callback (R50, R255). -/
def configChangedEvents (i : Nat) (c : Card) (d : LogicalDevice) : List Event :=
  if c.hooks.cfgCb then [.configChanged i d.number (project d)] else []

/-- `CsnChanged(card, csn)` where the card registered the callback (R50). -/
def csnChangedEvents (i : Nat) (c : Card) (v : Byte) : List Event :=
  if c.hooks.csnCb then [.csnChanged i v] else []

/-- `VendorWrite(card, ldn, reg, value)` where the card registered the hook (R50, R201, R208). -/
def vendorWriteEvents (i : Nat) (c : Card) (ldn reg v : Byte) : List Event :=
  if c.hooks.vendorWrite then [.vendorWrite i ldn reg v] else []

/-- One list of events per card, in chain order from index `n`. -/
def chainEvents (f : Nat → Card → List Event) : Nat → List Card → List Event
  | _, [] => []
  | n, c :: cs => f n c ++ chainEvents f (n + 1) cs

/-! ### Shapes shared by several operations -/

/-- Asks the card's vendor-read hook, or answers the sentinel where there is none (R200, R207). -/
def vendorRead (s : State) (i : Nat) (c : Card) (ldn reg : Byte) : Result :=
  if c.hooks.vendorRead then answerByte (s.ask ⟨i, ldn, reg⟩) (Config.vendorByte s.asks)
  else answerByte s readSentinel

/-- Hands a byte to the card's vendor-write hook, if any (R201, R208). -/
def vendorWrite (s : State) (i : Nat) (c : Card) (ldn reg v : Byte) : Result :=
  .next (s.emit (vendorWriteEvents i c ldn reg v))

/-- Reads register `r` of the selected device (R202, R204, R209, R211). -/
def readDeviceReg (s : State) (r : Byte) : Result :=
  dataRead s fun t =>
    match t.currentDevice with
    | none => answerByte t readSentinel
    | some (_, _, d) => answerByte t (d.reg r)

/-- Stores what `f` makes of register `r`'s byte in the selected device (R211). `fires` says whether the projector is
fired afterwards (R203, R210) or not (R205). -/
def writeDeviceReg (s : State) (r : Byte) (f : Byte → Byte) (fires : Bool) : Result :=
  operate s fun t =>
    match t.currentDevice with
    | none => dropped t
    | some (ref, c, d) =>
      .next ((t.setDevice ref c (d.setReg r (f (d.reg r)))).emit
        (if fires then configChangedEvents ref.card c (d.setReg r (f (d.reg r))) else []))

end Sys2Proof.Machine
end

