-- ==== Sys2Proof/Machine/DeviceRegs.lean ====
section
/-! DEFINITION. The vendor registers, the logical-device registers 0x30 to 0xFF and the range-check responders (R200 to
R212). -/

namespace Sys2Proof.Machine

/-! ### 0x20 to 0x2F, vendor-defined, card scope -/

/-- `DR.VENDOR_CARD` (R200). -/
def execDrVendorCard (reg : Byte) (s : State) : Result :=
  dataRead s fun t =>
    match t.configCard with
    | none => answerByte t readSentinel
    | some (i, c) => vendorRead t i c t.cfg.vendorCardLdn reg

/-- `DW.VENDOR_CARD` (R201). -/
def execDwVendorCard (reg v : Byte) (s : State) : Result :=
  operate s fun t =>
    match t.configCard with
    | none => dropped t
    | some (i, c) => vendorWrite t i c t.cfg.vendorCardLdn reg v

/-! ### 0x30 Activate -/

/-- `DR.ACTIVATE` (R202). -/
def execDrActivate (s : State) : Result := readDeviceReg s activateReg

/-- `DW.ACTIVATE` (R203). -/
def execDwActivate (v : Byte) (s : State) : Result :=
  writeDeviceReg s activateReg (fun _ => activateBits v) true

/-! ### 0x31 I/O Range Check -/

/-- `DR.IO_RANGE_CHECK` (R204). -/
def execDrIoRangeCheck (s : State) : Result := readDeviceReg s rangeCheckReg

/-- `DW.IO_RANGE_CHECK` (R205): the projector is not fired. -/
def execDwIoRangeCheck (v : Byte) (s : State) : Result :=
  writeDeviceReg s rangeCheckReg (fun _ => rangeCheckBits v) false

/-! ### 0x38 to 0x3F and 0xF0 to 0xFE, vendor-defined, device scope -/

/-- `DR.VENDOR_LD` (R207). -/
def execDrVendorLd (reg : Byte) (s : State) : Result :=
  dataRead s fun t =>
    match t.currentDevice with
    | none => answerByte t readSentinel
    | some (ref, c, d) => vendorRead t ref.card c d.number reg

/-- `DW.VENDOR_LD` (R208). -/
def execDwVendorLd (reg v : Byte) (s : State) : Result :=
  operate s fun t =>
    match t.currentDevice with
    | none => dropped t
    | some (ref, c, d) => vendorWrite t ref.card c d.number reg v

/-! ### Generic device registers -/

/-- `DR.GENERIC` (R209). -/
def execDrGeneric (reg : Byte) (s : State) : Result := readDeviceReg s reg

/-- `DW.GENERIC` (R210). -/
def execDwGeneric (reg v : Byte) (s : State) : Result :=
  writeDeviceReg s reg (fun old => genericStored reg old v) true

/-! ### The range-check responders -/

/-- Address `a` is the base of one of the device's eight I/O ranges (R206). -/
def hasIoBase (d : LogicalDevice) (a : Port) : Bool := [0, 1, 2, 3, 4, 5, 6, 7].any fun i => ioBase d i == a

/-- `(a, d)` is in the responder set (R206). -/
def respondsAt (d : LogicalDevice) (a : Port) : Bool := rangeCheckEnabled d && hasIoBase d a && a != 0

/-- The device that answers at `a`: the first in chain and number order (R206). -/
def State.responder (s : State) (a : Port) : Option LogicalDevice :=
  (s.cards.flatMap fun c => c.lds).find? fun d => respondsAt d a

/-- `RC` (R206). An address without a responder is not claimed: the block does not answer (R63; log 6). -/
def execRc (a : Port) (s : State) : Result :=
  operate s fun t =>
    match t.responder a with
    | none => dropped t
    | some d => answerByte t (rangeCheckPattern d)

end Sys2Proof.Machine
end

