-- ==== Sys2Proof/Machine/Bus.lean ====
section
/-! DEFINITION. How a pending access becomes an operation: which port claims it (R62, R63), which selector it has with
the index latch (R92, R93, R96), and what the model refuses (R66, U2). -/

namespace Sys2Proof.Machine

/-- What an access is to the block. -/
inductive Route where
  /-- The record of an operation, for the decoder. -/
  | operation (bytes : List Byte)
  /-- The block does not claim the access (R63, U1; log 6). -/
  | unclaimed
  /-- The model refuses the access. -/
  | stop (why : Refusal)
deriving DecidableEq, Repr

/-- `a` is one of the two fixed ports (R62). -/
def State.isFixedPort (s : State) (a : Port) : Bool := a == s.cfg.addressPort || a == s.cfg.writeDataPort

/-- `a` is the mapped read-data port (R63). -/
def State.isReadPort (s : State) (a : Port) : Bool := s.readPort != 0 && a == s.readPort

/-- Some range-check responder claims `a` (R62, R206). -/
def State.isResponderPort (s : State) (a : Port) : Bool := (s.responder a).isSome

/-- Two claims meet at `a` in a read: a relocatable read port at a fixed port, or the read-data port at a responder
(R206, R321, U2; log 7). -/
def State.readOverlap (s : State) (a : Port) : Bool :=
  ((s.isReadPort a || s.isResponderPort a) && s.isFixedPort a) || (s.isReadPort a && s.isResponderPort a)

/-- `a` is one of the block's ports, in whatever direction the block claims it (R62). -/
def State.isBlockPort (s : State) (a : Port) : Bool := s.isFixedPort a || s.isReadPort a || s.isResponderPort a

/-- The offsets of the bytes a wide access covers (R66). -/
def wideOffsets : WideWidth → List Port
  | .word => [0, 1]
  | .dword => [0, 1, 2, 3]

/-- The record of a host call (log 11). -/
def hostRecord (call : Instr) : Route := .operation (encode call)

/-- A one-byte write: ADDRESS, the write side of DATA with the latched index, or nothing of the block's (R62). -/
def routeWrite (s : State) (a : Port) (v : Byte) : Route :=
  if a = s.cfg.addressPort then
    if a = s.cfg.writeDataPort then .stop (.portOverlap a) else .operation (record 0 s.reg [v])
  else if a = s.cfg.writeDataPort then .operation (record 1 s.reg [v])
  else .unclaimed

/-- A one-byte read: the read side of DATA with the latched index, else the responders' (R62, R63). -/
def routeRead (s : State) (a : Port) : Route :=
  if s.readOverlap a then .stop (.portOverlap a)
  else if s.isReadPort a then .operation (record 2 s.reg [])
  else .operation (record 3 s.reg [a.extractLsb' 0 8, a.extractLsb' 8 8])

/-- A wide access, a read or a write: refused where it covers a port of the block (R66, D18), else not the block's
(log 8). DESIGN CHOICE (log 23): the ports are those of the controller's fields, also when it is faulted or destroyed. -/
def routeWide (s : State) (width : WideWidth) (a : Port) : Route :=
  if (wideOffsets width).any fun k => s.isBlockPort (a + k) then .stop (.wideAccess a) else .unclaimed

/-- Where a pending access goes. -/
def route (s : State) : Request → Route
  | .write a v => routeWrite s a v
  | .read a => routeRead s a
  | .wide _ width a => routeWide s width a
  | .addCard rom hooks => hostRecord (.addCard rom hooks)
  | .setCsn card csn => hostRecord (.setCsn card csn)
  | .machineInit => hostRecord .machineInit
  | .machineTeardown => hostRecord .machineTeardown

/-- An access the block does not claim changes nothing of a live controller and gets no answer from it (R63; log 6).
DESIGN CHOICE (log 23): on a faulted or destroyed controller it stops with sessionOver or noController, as an operation
does; the spec says nothing of such an access there. -/
def unclaimedAccess (s : State) : Result := operate s dropped

/-- The access that makes the operation with selector bits 10:0 of `w` and operand 0 (R90, R96). -/
def tableRequest (s : State) (w : Nat) : Option Request :=
  match decode (tableRecord 16 w) with
  | .error _ => none
  | .ok (i, _) =>
    match w / 256 % 8 with
    | 0 => some (.write s.cfg.addressPort 0)
    | 1 => some (.write s.cfg.writeDataPort 0)
    | 2 => some (.read s.readPort)
    | 3 => some (.read 0)
    | _ =>
      match i with
      | .addCard rom hooks => some (.addCard rom hooks)
      | .setCsn card csn => some (.setCsn card csn)
      | .machineInit => some .machineInit
      | _ => some .machineTeardown

/-- The latch and the mapping a row's operation needs: `reg` holds its index for the DATA classes (R92, R93), and a
DATA read needs a mapped read port (R315), the lowest legal one where none is mapped. -/
def State.readyForWord (s : State) (w : Nat) : State :=
  match w / 256 % 8 with
  | 1 => s.withReg (BitVec.ofNat 8 w)
  | 2 => (s.withReg (BitVec.ofNat 8 w)).withReadPort (if s.readPort = 0 then readPortMin else s.readPort)
  | _ => s

/-- The state with a row's operation issued next (log 1). -/
def State.issueWord (s : State) (nbits w : Nat) : State :=
  match tableRequest (s.readyForWord (w % 2 ^ nbits)) (w % 2 ^ nbits) with
  | none => s
  | some r => (s.readyForWord (w % 2 ^ nbits)).withPending (r :: s.pending)

end Sys2Proof.Machine
end

