-- ==== Sys2Proof/Machine/AddressPort.lean ====
section
/-! DEFINITION. The ADDRESS port: the key lock and the register index latch (R120 to R125). -/

namespace Sys2Proof.Machine

/-- The key byte expected next: `KEY[key_pos]` (R122). -/
def State.expectedKeyByte (s : State) : Byte := s.cfg.key[s.keyPos.toNat]'(s.keyPos.isLt)

/-- A card in WAIT_FOR_KEY goes to SLEEP, any other is left alone (R123). -/
def Card.arm (c : Card) : Card := if c.state = .waitForKey then { c with state := .sleep } else c

/-- The 32nd match in a row: every WAIT_FOR_KEY card is armed (R123). -/
def State.armAll (s : State) : State := s.withCards (s.cards.map Card.arm)

/-- A matching key byte (R122): the position advances, and its return to 0 unlocks (R123). -/
def State.keyMatch (s : State) : State :=
  if s.keyPos + 1 = 0 then (s.withKeyPos (s.keyPos + 1)).armAll else s.withKeyPos (s.keyPos + 1)

/-- `AW` (R120): nothing on an empty chain (R121), a key byte while the first card is in WAIT_FOR_KEY (R122), else the
index latch (R124). -/
def execAw (v : Byte) (s : State) : Result :=
  operate s fun t =>
    if t.cards = [] then dropped t
    else if t.locked then
      .next (if v = t.expectedKeyByte then t.keyMatch else t.withKeyPos 0)
    else .next (t.withReg v)

end Sys2Proof.Machine
end

