-- ==== Sys2Proof/Machine/CardControl.lean ====
section
/-! DEFINITION. The card-level registers 0x00 and 0x02 to 0x1F and the card state machine (R140 to R158). -/

namespace Sys2Proof.Machine

/-! ### 0x00 Set Read-Data port -/

/-- `DW.SET_RD_PORT` (R141). -/
def execDwSetRdPort (v : Byte) (s : State) : Result :=
  operate s fun t => .next (t.withReadPort (mappedReadPort v))

/-- `DR.SET_RD_PORT` (R142, D21). -/
def execDrSetRdPort (s : State) : Result := constantRead s readSentinel

/-! ### 0x02 Config Control -/

/-- The card with every device's registers back at their defaults (R144). -/
def Card.resetRegs (p : Params) (c : Card) : Card := { c with lds := c.lds.map (resetLdRegs p) }

/-- One configuration-changed event for each device of a card, in descriptor order, which is the order of the numbers
(R144). DESIGN CHOICE (log 16): with more than 256 devices, whose numbers wrap, the order stays the descriptors'. -/
def deviceEvents (i : Nat) (c : Card) : List Event := c.lds.flatMap (configChangedEvents i c)

/-- Command bit 0, Reset (R144): the events are those of the devices after their reset. -/
def State.resetCommand (s : State) : State :=
  ((((s.withCards (s.cards.map (Card.resetRegs s.cfg))).emit
    (chainEvents deviceEvents 0 (s.cards.map (Card.resetRegs s.cfg)))).withReadPort 0).withCurLd none).withIsolated none

/-- Command bit 1, Return to Wait-For-Key (R145). -/
def State.waitForKeyCommand (s : State) : State :=
  s.withCards (s.cards.map fun c => { c with state := .waitForKey })

/-- Command bit 2, Reset CSN (R146, D23). -/
def State.resetCsnCommand (s : State) : State :=
  (s.withCards (s.cards.map fun c => { c with csn := 0 })).emit
    (chainEvents (fun i c => csnChangedEvents i c 0) 0 s.cards)

/-- Carries out a command where its bit is set (R143). -/
def State.onCommand (s : State) (bit : Bool) (command : State → State) : State := if bit then command s else s

/-- `DW.CONFIG_CONTROL` (R143): the commands whose bits are set, in the order bit 0, bit 1, bit 2 (D22). -/
def execDwConfigControl (v : Byte) (s : State) : Result :=
  operate s fun t =>
    .next (((t.onCommand (commandReset v) State.resetCommand).onCommand (commandWaitForKey v)
      State.waitForKeyCommand).onCommand (commandResetCsn v) State.resetCsnCommand)

/-- `DR.CONFIG_CONTROL` (R142, D21). -/
def execDrConfigControl (s : State) : Result := constantRead s readSentinel

/-! ### 0x03 Wake[CSN] -/

/-- The state of a matching card after Wake[v]: only a sleeping card moves (R147). -/
def wakeState (v : Byte) (st : CardState) : CardState :=
  if st = .sleep then (if v = 0 then .isolation else .config) else st

/-- What Wake[v] does to one card (R147, R148). -/
def Card.wake (p : Params) (v : Byte) (c : Card) : Card :=
  if c.csn = v then
    { c with
      serialPos := 0
      serialPair := false
      romPos := 0
      idChecksum := p.key[0]
      state := wakeState v c.state }
  else { c with state := .sleep }

/-- `DW.WAKE` (R147). -/
def execDwWake (v : Byte) (s : State) : Result :=
  operate s fun t => .next (t.withCards (t.cards.map (Card.wake t.cfg v)))

/-- `DR.WAKE` (R142, D21). -/
def execDrWake (s : State) : Result := constantRead s readSentinel

/-! ### 0x04 Resource Data -/

/-- `DR.RESOURCE_DATA` (R149): the next ROM byte of the CONFIG card, 0xFF without one or past the end (D24). -/
def execDrResourceData (s : State) : Result :=
  dataRead s fun t =>
    match t.configCard with
    | none => answerByte t readSentinel
    | some (i, c) =>
      match c.rom[c.romPos]? with
      | some b => answerByte (t.setCard i { c with romPos := c.romPos + 1 }) b
      | none => answerByte t readSentinel

/-- `DW.RESOURCE_DATA` (R142, D21). -/
def execDwResourceData (_v : Byte) (s : State) : Result := ignoredWrite s

/-! ### 0x05 Status -/

/-- `DR.STATUS` (R150). -/
def execDrStatus (s : State) : Result :=
  dataRead s fun t => answerByte t (if t.configCard.isSome then 0x01 else querySentinel)

/-- `DW.STATUS` (R142, D21). -/
def execDwStatus (_v : Byte) (s : State) : Result := ignoredWrite s

/-! ### 0x06 Card Select Number -/

/-- `DR.CSN` (R151). -/
def execDrCsn (s : State) : Result :=
  dataRead s fun t =>
    match t.configCard with
    | none => answerByte t querySentinel
    | some (_, c) => answerByte t c.csn

/-- `DW.CSN` (R152): the card the marker names takes the CSN and enters CONFIG; the marker is cleared. -/
def execDwCsn (v : Byte) (s : State) : Result :=
  operate s fun t =>
    match t.isolatedCard with
    | none => dropped t
    | some (i, c) =>
      .next (((t.setCard i { c with csn := v, state := .config }).emit (csnChangedEvents i c v)).withIsolated none)

/-! ### 0x07 Logical Device Number -/

/-- `DR.LDN` (R153, D25). -/
def execDrLdn (s : State) : Result :=
  dataRead s fun t =>
    match t.currentDevice with
    | none => answerByte t readSentinel
    | some (_, _, d) => answerByte t d.number

/-- Where on a card the device with a number stands (R154). -/
def Card.deviceNumbered (c : Card) (v : Byte) : Option Nat := c.lds.findIdx? fun d => d.number == v

/-- `DW.LDN` (R154): selects the device with number `v` of the CONFIG card; fatal where the card has none (R285). -/
def execDwLdn (v : Byte) (s : State) : Result :=
  operate s fun t =>
    match t.configCard with
    | none => dropped t
    | some (i, c) =>
      match c.deviceNumbered v with
      | some k => .next (t.withCurLd (some ⟨i, k⟩))
      | none => raiseFatal t .unknownLdn v

/-! ### 0x08 to 0x1F -/

/-- `DW.UNRECOGNIZED` (R157). -/
def execDwUnrecognized (_reg _v : Byte) (s : State) : Result := ignoredWrite s

/-- `DR.UNRECOGNIZED` (R157). -/
def execDrUnrecognized (_reg : Byte) (s : State) : Result := constantRead s readSentinel

end Sys2Proof.Machine
end

