-- ==== Sys2Proof/Machine/HostOps.lean ====
section
/-! DEFINITION. The host calls add_card (R240 to R251), set_csn (R258), machine_init and machine_teardown (R300). -/

namespace Sys2Proof.Machine

/-- A card as attach creates it from its finished ROM and devices (R240, R302). -/
def Card.attached (rom : List Byte) (lds : List LogicalDevice) (hooks : Hooks) : Card :=
  { state := .waitForKey
    csn := 0
    idChecksum := 0
    serialPos := 0
    serialPair := false
    serialLatch := false
    rom := rom
    romPos := 0
    lds := lds
    hooks := hooks }

/-- `add_card` (R240): stores the resource checksum, parses, and appends the card at the tail of the chain (R21); its
handle is its chain index (log 20). A fifth memory slot is fatal and appends nothing (R250, R284). -/
def execAddCard (rom : List Byte) (hooks : Hooks) (s : State) : Result :=
  operate s fun t =>
    if rom.length < minRomLen then .refused (.romTooShort rom.length)
    else
      match parseRom t.cfg (storeResourceChecksum rom) with
      | .error fam => raiseFatal t .tooManyMemSlots fam.info
      | .ok lds =>
        .next ((t.withCards (t.cards ++ [Card.attached (storeResourceChecksum rom) lds hooks])).reply
          (.card t.cards.length))

/-- `set_csn` (R258, D23). A handle no add_card returned addresses a missing card and is dropped (R281; log 12). -/
def execSetCsn (card : BitVec 32) (csn : Byte) (s : State) : Result :=
  operate s fun t =>
    match t.cards[card.toNat]? with
    | none => dropped t
    | some c => .next ((t.setCard card.toNat { c with csn := csn }).emit (csnChangedEvents card.toNat c csn))

/-- `machine_init` (R300, R301): a fresh controller, also after a fatal error (R286) or a teardown. -/
def execMachineInit (s : State) : Result := .next s.initialised

/-- `machine_teardown` (R300). -/
def execMachineTeardown (s : State) : Result := operate s fun t => .next t.destroyed

end Sys2Proof.Machine
end

