-- ==== Sys2Proof/Machine/SerialIsolation.lean ====
section
/-! DEFINITION. Index 0x01: the serial isolation engine and its running checksum (R180 to R189). -/

namespace Sys2Proof.Machine

/-- Bit `pos mod 8` of ROM byte `pos div 8` (R183); a byte the buffer lacks counts as 0 (log 14). -/
def Card.identityBit (c : Card) (pos : Nat) : Bool := (c.rom.getD (pos / 8) 0).getLsbD (pos % 8)

/-- The checksum stored into the header's placeholder, at position 64 and at no other (R185). -/
def Card.storeChecksum (c : Card) : Card :=
  if c.serialPos.val = identityBits then { c with rom := c.rom.set checksumByte c.idChecksum } else c

/-- The first pulse of a bit: an identity bit steps the checksum (R183, R184), a checksum bit sends it (R185). -/
def Card.pulseFirst (p : Params) (c : Card) : Card × Byte :=
  if c.serialPos.val < identityBits then
    ({ c with
        idChecksum := lfsrStep p c.idChecksum (c.identityBit c.serialPos.val)
        serialLatch := c.identityBit c.serialPos.val
        serialPair := true },
      firstPulse (c.identityBit c.serialPos.val))
  else
    ({ c.storeChecksum with
        serialLatch := c.idChecksum.getLsbD (c.serialPos.val % 8)
        serialPair := true },
      firstPulse (c.idChecksum.getLsbD (c.serialPos.val % 8)))

/-- The resource pointer after a second pulse that leaves the position at `pos` (R187, D6). -/
def resourcePointerAfter (p : Params) (pos : Fin 72) (romPos : Nat) : Nat :=
  if pos = 0 then p.romPosAfterIsolation.getD romPos else romPos

/-- The second pulse of a bit (R186, R187). -/
def Card.pulseSecond (p : Params) (c : Card) : Card × Byte :=
  ({ c with
      serialPair := false
      serialPos := c.serialPos + 1
      romPos := resourcePointerAfter p (c.serialPos + 1) c.romPos },
    secondPulse p c.serialLatch)

/-- One isolation pulse of a card: the card after it and the byte sent (R180). -/
def Card.pulse (p : Params) (c : Card) : Card × Byte :=
  if c.serialPair then c.pulseSecond p else c.pulseFirst p

/-- `DR.SERIAL_ISOLATION` (R180, R181): the first card in ISOLATION becomes the isolated card and sends a pulse; with
none the marker is cleared and the read returns 0xFF (D26). -/
def execDrSerialIsolation (s : State) : Result :=
  dataRead s fun t =>
    match t.firstCardIn .isolation with
    | none => answerByte (t.withIsolated none) readSentinel
    | some (i, c) => answerByte ((t.withIsolated (some i)).setCard i (c.pulse t.cfg).1) (c.pulse t.cfg).2

/-- `DW.SERIAL_ISOLATION` (R142, D21). -/
def execDwSerialIsolation (_v : Byte) (s : State) : Result := ignoredWrite s

/-- The checksum of the identity bits from position `pos` on, `n` of them (R189). -/
def lfsrBits (p : Params) (bit : Nat → Bool) : Nat → Nat → Byte → Byte
  | 0, _, ck => ck
  | n + 1, pos, ck => lfsrBits p bit n (pos + 1) (lfsrStep p ck (bit pos))

/-- `lfsr8` of a card's identity bytes, seeded with `KEY[0]` (R189). -/
def Card.identityChecksum (p : Params) (c : Card) : Byte := lfsrBits p c.identityBit identityBits 0 p.key[0]

end Sys2Proof.Machine
end

