-- ==== Sys2Proof/Machine/Dispatch.lean ====
section
/-! DEFINITION. One arm per operation. -/

namespace Sys2Proof.Machine

/-- The meaning of each operation. -/
def exec (i : Instr) (s : State) : Host.Outcome State Fault Refusal :=
  match i with
  | .aw v => Sys2Proof.Machine.execAw v s
  | .dwSetRdPort v => Sys2Proof.Machine.execDwSetRdPort v s
  | .dwSerialIsolation v => Sys2Proof.Machine.execDwSerialIsolation v s
  | .dwConfigControl v => Sys2Proof.Machine.execDwConfigControl v s
  | .dwWake v => Sys2Proof.Machine.execDwWake v s
  | .dwResourceData v => Sys2Proof.Machine.execDwResourceData v s
  | .dwStatus v => Sys2Proof.Machine.execDwStatus v s
  | .dwCsn v => Sys2Proof.Machine.execDwCsn v s
  | .dwLdn v => Sys2Proof.Machine.execDwLdn v s
  | .dwUnrecognized reg v => Sys2Proof.Machine.execDwUnrecognized reg v s
  | .dwVendorCard reg v => Sys2Proof.Machine.execDwVendorCard reg v s
  | .dwActivate v => Sys2Proof.Machine.execDwActivate v s
  | .dwIoRangeCheck v => Sys2Proof.Machine.execDwIoRangeCheck v s
  | .dwGeneric reg v => Sys2Proof.Machine.execDwGeneric reg v s
  | .dwVendorLd reg v => Sys2Proof.Machine.execDwVendorLd reg v s
  | .drSetRdPort => Sys2Proof.Machine.execDrSetRdPort s
  | .drSerialIsolation => Sys2Proof.Machine.execDrSerialIsolation s
  | .drConfigControl => Sys2Proof.Machine.execDrConfigControl s
  | .drWake => Sys2Proof.Machine.execDrWake s
  | .drResourceData => Sys2Proof.Machine.execDrResourceData s
  | .drStatus => Sys2Proof.Machine.execDrStatus s
  | .drCsn => Sys2Proof.Machine.execDrCsn s
  | .drLdn => Sys2Proof.Machine.execDrLdn s
  | .drUnrecognized reg => Sys2Proof.Machine.execDrUnrecognized reg s
  | .drVendorCard reg => Sys2Proof.Machine.execDrVendorCard reg s
  | .drActivate => Sys2Proof.Machine.execDrActivate s
  | .drIoRangeCheck => Sys2Proof.Machine.execDrIoRangeCheck s
  | .drGeneric reg => Sys2Proof.Machine.execDrGeneric reg s
  | .drVendorLd reg => Sys2Proof.Machine.execDrVendorLd reg s
  | .rc a => Sys2Proof.Machine.execRc a s
  | .addCard rom hooks => Sys2Proof.Machine.execAddCard rom hooks s
  | .setCsn card csn => Sys2Proof.Machine.execSetCsn card csn s
  | .machineInit => Sys2Proof.Machine.execMachineInit s
  | .machineTeardown => Sys2Proof.Machine.execMachineTeardown s

end Sys2Proof.Machine
end

