-- ==== Sys2Proof/Machine/Step.lean ====
section
/-! DEFINITION. One step: the block serves the oldest pending access (R13, R69, R71; log 1). -/

namespace Sys2Proof.Machine

/-- Runs the operation whose record an access makes. -/
def runRecord (bytes : List Byte) (s : State) : Host.Outcome State Fault Refusal :=
  match decode bytes with
  | .ok (i, _) => exec i s
  | .error e => .refused (.undecodable e)

/-- Serves one access. DESIGN CHOICE (log 23): what the routing refuses is refused first, also on a faulted or destroyed
controller; the faults of those are found when the operation runs. -/
def serve (r : Request) (s : State) : Host.Outcome State Fault Refusal :=
  match route s r with
  | .operation bytes => runRecord bytes s
  | .unclaimed => unclaimedAccess s
  | .stop why => .refused why

/-- The oldest pending access is served; with none pending the block waits as it is (log 1). -/
def step (s : State) : Host.Outcome State Fault Refusal :=
  match s.pending with
  | [] => .next s
  | r :: rest => serve r (s.withPending rest)

/-- The state whose next step runs the table row's word `w` (log 1). -/
def State.withFetchWord (s : State) (nbits w : Nat) : State := s.issueWord nbits w

end Sys2Proof.Machine
end

