-- ==== Sys2Proof/Safety.lean ====
section
/-! DEFINITION. What counts as a safe run, and the invariants of the machine, in the terms the statements use. -/

namespace Sys2Proof.Machine

/-! ### Running -/

/-- A controller exists and has taken no fatal error: operations are defined (R286, R300). -/
abbrev State.Live (s : State) : Prop := s.alive = true ∧ s.fault = none

/-- A live controller with a mapped read-data port: DATA reads are defined (R315). -/
abbrev State.Readable (s : State) : Prop := s.Live ∧ s.readPort ≠ 0

/-- The outcome is a next state in which the session goes on. -/
abbrev Safe (o : Result) : Prop :=
  match o with
  | .next t => t.Live
  | .fault _ => False
  | .refused _ => False

/-- Runs operations one after another, up to the first that stops. -/
def execAll : List Instr → State → Result
  | [], s => .next s
  | i :: is, s =>
    match exec i s with
    | .next t => execAll is t
    | .fault r => .fault r
    | .refused r => .refused r

/-- `n` isolation pulses of one card in a row: the card after them and the bytes sent, in order. -/
def Card.pulses (p : Params) : Nat → Card → Card × List Byte
  | 0, c => (c, [])
  | n + 1, c => ((Card.pulses p n (c.pulse p).1).1, (c.pulse p).2 :: (Card.pulses p n (c.pulse p).1).2)

/-! ### Scans, said without the scan function -/

/-- Card `i` is `c`, in state `st`, and no earlier card of the chain is in that state (R12). -/
abbrev State.FirstIn (s : State) (st : CardState) (i : Nat) (c : Card) : Prop :=
  s.cards[i]? = some c ∧ c.state = st ∧ ∀ e ∈ s.cards.take i, e.state ≠ st

/-- No card of the chain is in state `st`. -/
abbrev State.NoneIn (s : State) (st : CardState) : Prop := ∀ c ∈ s.cards, c.state ≠ st

/-- `cur_ld` refers to device `d` of card `c` (R27). -/
abbrev State.Selected (s : State) (ref : DeviceRef) (c : Card) (d : LogicalDevice) : Prop :=
  s.curLd = some ref ∧ s.cards[ref.card]? = some c ∧ c.lds[ref.device]? = some d

/-- Some device of the chain answers a range check at `a` (R206). -/
abbrev State.SomeRespondsAt (s : State) (a : Port) : Prop := ∃ c ∈ s.cards, ∃ d ∈ c.lds, respondsAt d a = true

/-- No device of the chain answers a range check at `a`. -/
abbrev State.NoneRespondsAt (s : State) (a : Port) : Prop := ∀ c ∈ s.cards, ∀ d ∈ c.lds, respondsAt d a = false

/-- `a` is one of the block's ports: a fixed one, the mapped read-data port, or a responder's address (R62). -/
abbrev State.PortAt (s : State) (a : Port) : Prop :=
  a = s.cfg.addressPort ∨ a = s.cfg.writeDataPort ∨ (s.readPort ≠ 0 ∧ a = s.readPort) ∨ s.SomeRespondsAt a

/-! ### Invariants -/

/-- Every register file is in canonical form with indices below 256 (R40; log 15). -/
abbrev State.RegisterFilesCanonical (s : State) : Prop :=
  ∀ c ∈ s.cards, ∀ d ∈ c.lds, Memory.wf d.regs ∧ Memory.within256 d.regs

/-- I1 and I2 of R312. The last clause is what makes them inductive: `AW` does nothing on an empty chain (R121), so
`reg` still has its reset value when the first card is attached. -/
abbrev State.LockInvariant (s : State) : Prop :=
  (s.locked = true → s.reg = 0x00 ∨ s.reg = 0x02) ∧ (s.locked = false → s.keyPos = 0) ∧
    (s.cards = [] → s.reg = 0x00)

/-- `read_port` is 0 or one of the legal addresses, bits 1:0 both set (R25, R64). -/
abbrev State.ReadPortLegal (s : State) : Prop :=
  s.readPort = 0 ∨ (readPortMin ≤ s.readPort ∧ s.readPort ≤ readPortMax ∧ s.readPort &&& 3 = 3)

/-- `isolated` refers to a card of the chain, `cur_ld` to a device of one (R26, R27). -/
abbrev State.ReferencesValid (s : State) : Prop :=
  (∀ i, s.isolated = some i → i < s.cards.length) ∧
    (∀ ref, s.curLd = some ref → ∃ c d, s.cards[ref.card]? = some c ∧ c.lds[ref.device]? = some d)

/-- The DMA select offsets are generic registers without a read-only bit, as the default setting's are (R6, R43). -/
abbrev SaneParams (p : Params) : Prop :=
  (isGenericIndex p.dmaReg0 = true ∧ isUpperLimitOffset p.dmaReg0 = false) ∧
    (isGenericIndex p.dmaReg1 = true ∧ isUpperLimitOffset p.dmaReg1 = false)

/-- What no port operation can break in a register file: Activate keeps bit 0 only (R202), range check bits 1:0 (R204),
the eight flags, each beside its mask bit (R42), equal the mask (R210), and the indices no port access stores to stay 0 (R41). -/
structure DeviceInvariant (d : LogicalDevice) : Prop where
  canonical : Memory.wf d.regs
  within : Memory.within256 d.regs
  activate : (d.reg 0x30).toNat ≤ 1
  rangeCheck : (d.reg 0x31).toNat ≤ 3
  flags : ∀ slot ∈ ([(0x42, 0), (0x4A, 1), (0x52, 2), (0x5A, 3), (0x7A, 4), (0x84, 5), (0x94, 6), (0xA4, 7)] :
      List (Byte × Nat)), (d.reg slot.1).getLsbD 0 = d.ulMask.getLsbD slot.2
  unreached : ∀ r : Byte, (r.toNat < 0x30 ∨ isVendorLdIndex r = true) → d.reg r = 0

/-- What holds of a card from its attach on: its ROM has a header (R38, the spec's decision D16), the resource pointer stays
in bounds (R39, D6), the devices are numbered in order (R40; modulo 256, log 16) and keep their own invariant. -/
structure CardInvariant (p : Params) (c : Card) : Prop where
  header : minRomLen ≤ c.rom.length
  pointer : c.romPos ≤ max c.rom.length (p.romPosAfterIsolation.getD 0)
  numbered : ∀ k d, c.lds[k]? = some d → d.number = BitVec.ofNat 8 k
  devices : ∀ d ∈ c.lds, DeviceInvariant d

/-- The invariant of the attached cards. -/
structure State.CardsInvariant (s : State) : Prop where
  params : SaneParams s.cfg
  cards : ∀ c ∈ s.cards, CardInvariant s.cfg c

end Sys2Proof.Machine
end

