-- ==== Sys2Proof/Certificates/Slice0/Obligations.lean ====
section
/-! DEFINITION. The statements about the machine, for the provers. `s.clearOutputs` is the state an operation starts
from: `s` with the outputs of the operation before it removed (log 4). A statement of an operation's result gives the
whole next state, so that it is also the operation's frame. -/

open Sys2Proof Sys2Proof.Machine

/-! ### Encoding -/

/-- R96, R97: every well-formed operation is read back from its record, with nothing left over. The layout of the
operands is the model's (log 11). -/
def Obligations.DecodeOfEncodeIsTheOperation : Prop :=
  ∀ i : Instr, i.wellFormed = true → decode (encode i) = .ok (i, [])

/-- R95, R96: every index of a DATA access decodes to an operation whose own record has that index and byte again, so no
index is read as another's. The selector is the spec's bookkeeping (D20), the record around it the model's (log 11). -/
def Obligations.EveryIndexDecodesToItsOwnRecord : Prop :=
  ∀ reg v : Byte,
    ((decodeDataWrite reg v).wellFormed = true ∧ encode (decodeDataWrite reg v) = [reg, 1, v]) ∧
    ((decodeDataRead reg).wellFormed = true ∧ encode (decodeDataRead reg) = [reg, 2])

/-- R97: for every selector exactly one row of the opcode table applies, and its mnemonic is that of the operation the
decoder reads. The selector is the spec's bookkeeping (D20). -/
def Obligations.OneTableRowPerSelector : Prop :=
  ∀ sel : Selector,
    (selectorRows.filter fun row => row.applies sel).map (fun row => row.mnemonic) =
      ((decodeTableWord 16 sel.toNat).map mnemonicOf).toList

/-- R96: selectors written out from the table decode to their operations (operands 0; D20, log 11). -/
def Obligations.SampleSelectorsDecode : Prop :=
  decodeTableWord 16 0x05A = some (.aw 0) ∧
  decodeTableWord 16 0x103 = some (.dwWake 0) ∧
  decodeTableWord 16 0x142 = some (.dwGeneric 0x42 0) ∧
  decodeTableWord 16 0x1FE = some (.dwVendorLd 0xFE 0) ∧
  decodeTableWord 16 0x1FF = some (.dwGeneric 0xFF 0) ∧
  decodeTableWord 16 0x201 = some .drSerialIsolation ∧
  decodeTableWord 16 0x21F = some (.drUnrecognized 0x1F) ∧
  decodeTableWord 16 0x220 = some (.drVendorCard 0x20) ∧
  decodeTableWord 16 0x300 = some (.rc 0) ∧
  decodeTableWord 16 0x600 = some .machineInit ∧
  decodeTableWord 16 0x800 = none

/-! ### The step -/

/-- A step runs the decoded operation: when the oldest pending access makes a record that decodes to `i`, the step is
`exec i` on the state with that access removed (log 1). -/
def Obligations.StepRunsTheDecodedOperation : Prop :=
  ∀ (s : State) (r : Request) (rest : List Request) (bytes : List Byte) (i : Instr) (tail : List Byte),
    s.pending = r :: rest → route (s.withPending rest) r = .operation bytes → decode bytes = .ok (i, tail) →
      step s = exec i (s.withPending rest)

/-- R62, R63, R92, R93: which access is which operation. A write to ADDRESS is `AW`, a write to WRITE_DATA the DATA write
of the latched index, a read of the mapped read-data port the DATA read of the latched index, any other read the
responders', and a host call itself. A fixed port is read as any other address where no device responds at it. That an
access is served from a queue is the model's (log 1), and so is that a read no device responds at goes to the responders
too, which do not answer it (log 6). -/
def Obligations.AccessesSelectTheirOperation : Prop :=
  ∀ (s : State) (rest : List Request),
    (∀ v, s.cfg.addressPort ≠ s.cfg.writeDataPort → s.pending = .write s.cfg.addressPort v :: rest →
      step s = exec (.aw v) (s.withPending rest)) ∧
    (∀ v, s.cfg.addressPort ≠ s.cfg.writeDataPort → s.pending = .write s.cfg.writeDataPort v :: rest →
      step s = exec (decodeDataWrite s.reg v) (s.withPending rest)) ∧
    (s.readPort ≠ 0 → s.readPort ≠ s.cfg.addressPort → s.readPort ≠ s.cfg.writeDataPort →
      s.NoneRespondsAt s.readPort → s.pending = .read s.readPort :: rest →
      step s = exec (decodeDataRead s.reg) (s.withPending rest)) ∧
    (∀ a, (s.readPort = 0 ∨ a ≠ s.readPort) →
      ((a ≠ s.cfg.addressPort ∧ a ≠ s.cfg.writeDataPort) ∨ s.NoneRespondsAt a) →
      s.pending = .read a :: rest → step s = exec (.rc a) (s.withPending rest)) ∧
    (∀ rom hooks, s.pending = .addCard rom hooks :: rest → step s = exec (.addCard rom hooks) (s.withPending rest)) ∧
    (∀ card csn, s.pending = .setCsn card csn :: rest → step s = exec (.setCsn card csn) (s.withPending rest)) ∧
    (s.pending = .machineInit :: rest → step s = exec .machineInit (s.withPending rest)) ∧
    (s.pending = .machineTeardown :: rest → step s = exec .machineTeardown (s.withPending rest))

/-- The model's refusals of accesses (log 7, log 8; R62, R66, R206, U2, D18): a read where two claims meet (a responder at
the read-data port or at a fixed port, the read-data port at a fixed port), a write where the two fixed ports coincide,
and a wide access, read or write, that covers a port of the block. A faulted or destroyed controller refuses them too
(log 23). -/
def Obligations.AmbiguousAndWideAccessesAreRefused : Prop :=
  ∀ (s : State) (rest : List Request),
    (∀ a, s.SomeRespondsAt a →
      ((s.readPort ≠ 0 ∧ a = s.readPort) ∨ a = s.cfg.addressPort ∨ a = s.cfg.writeDataPort) →
      s.pending = .read a :: rest → step s = .refused (.portOverlap a)) ∧
    (s.readPort ≠ 0 → (s.readPort = s.cfg.addressPort ∨ s.readPort = s.cfg.writeDataPort) →
      s.pending = .read s.readPort :: rest → step s = .refused (.portOverlap s.readPort)) ∧
    (∀ v, s.cfg.addressPort = s.cfg.writeDataPort → s.pending = .write s.cfg.addressPort v :: rest →
      step s = .refused (.portOverlap s.cfg.addressPort)) ∧
    (∀ dir width a k, k ∈ wideOffsets width → s.PortAt (a + k) →
      s.pending = .wide dir width a :: rest → step s = .refused (.wideAccess a))

/-- The model's choice for what the block does not claim (log 1, log 6, log 8; R63, D17, U1): on a live controller a write
to another port, a read of an address that is neither the mapped read-data port nor a responder's (the fixed ports among
them) and a wide access that covers no port of the block change nothing and get no answer; with nothing pending the block
waits. -/
def Obligations.UnclaimedAccessesChangeNothing : Prop :=
  ∀ (s : State) (rest : List Request),
    (s.pending = [] → step s = .next s) ∧
    (∀ a v, s.Live → a ≠ s.cfg.addressPort → a ≠ s.cfg.writeDataPort → s.pending = .write a v :: rest →
      step s = .next (s.withPending rest).clearOutputs) ∧
    (∀ a, s.Live → (s.readPort = 0 ∨ a ≠ s.readPort) → s.NoneRespondsAt a → s.pending = .read a :: rest →
      step s = .next (s.withPending rest).clearOutputs) ∧
    (∀ dir width a, s.Live → (∀ k ∈ wideOffsets width, ¬ s.PortAt (a + k)) → s.pending = .wide dir width a :: rest →
      step s = .next (s.withPending rest).clearOutputs)

/-! ### The ADDRESS port -/

/-- R120, R124: the five things an ADDRESS write can do. -/
def Obligations.AddressWriteIsKeyByteOrIndex : Prop :=
  ∀ (s : State) (v : Byte), s.Live →
    (s.cards = [] → exec (.aw v) s = .next s.clearOutputs) ∧
    (∀ c cs, s.cards = c :: cs → c.state ≠ .waitForKey →
      exec (.aw v) s = .next { s.clearOutputs with reg := v }) ∧
    (∀ c cs, s.cards = c :: cs → c.state = .waitForKey → v ≠ s.cfg.key[s.keyPos.toNat]'(s.keyPos.isLt) →
      exec (.aw v) s = .next { s.clearOutputs with keyPos := 0 }) ∧
    (∀ c cs, s.cards = c :: cs → c.state = .waitForKey → v = s.cfg.key[s.keyPos.toNat]'(s.keyPos.isLt) →
      s.keyPos.toNat < 31 → exec (.aw v) s = .next { s.clearOutputs with keyPos := s.keyPos + 1 }) ∧
    (∀ c cs, s.cards = c :: cs → c.state = .waitForKey → v = s.cfg.key[s.keyPos.toNat]'(s.keyPos.isLt) →
      s.keyPos.toNat = 31 →
      exec (.aw v) s = .next { s.clearOutputs with
        keyPos := 0
        cards := s.cards.map fun e => if e.state = .waitForKey then { e with state := .sleep } else e })

/-- R123: the 32 key bytes, written from position 0 while the first card waits for the key, arm every waiting card and
change nothing else; for every key (D2). -/
def Obligations.KeySequenceArmsEveryWaitingCard : Prop :=
  ∀ (s : State) (c : Card) (cs : List Card), s.Live → s.cards = c :: cs → c.state = .waitForKey → s.keyPos = 0 →
    execAll (s.cfg.key.toList.map Instr.aw) s =
      .next { s.clearOutputs with
        cards := s.cards.map fun e => if e.state = .waitForKey then { e with state := .sleep } else e }

/-! ### Card-level registers -/

/-- R141: a Set Read-Data write maps `4 v + 3` for `v` of 0x80 and more, and unmaps for any other. -/
def Obligations.SetReadPortMapsOrUnmaps : Prop :=
  ∀ (s : State) (v : Byte), s.Live →
    exec (.dwSetRdPort v) s =
      .next { s.clearOutputs with readPort := if 0x80 ≤ v.toNat then BitVec.ofNat 16 (4 * v.toNat + 3) else 0 }

/-- The spec's decision D21 on R142: a write in a direction the table leaves blank is dropped. -/
def Obligations.BlankDirectionWritesAreDropped : Prop :=
  ∀ (s : State) (v : Byte), s.Live →
    exec (.dwSerialIsolation v) s = .next s.clearOutputs ∧
    exec (.dwResourceData v) s = .next s.clearOutputs ∧
    exec (.dwStatus v) s = .next s.clearOutputs

/-- The spec's decision D21 on R142: a read in a direction the table leaves blank returns 0xFF. -/
def Obligations.BlankDirectionReadsReturnFF : Prop :=
  ∀ s : State, s.Readable →
    exec .drSetRdPort s = .next { s.clearOutputs with ret := some (.byte 0xFF) } ∧
    exec .drConfigControl s = .next { s.clearOutputs with ret := some (.byte 0xFF) } ∧
    exec .drWake s = .next { s.clearOutputs with ret := some (.byte 0xFF) }

/-- R157: at 0x08 to 0x1F a write is dropped and a read returns 0xFF. -/
def Obligations.UnrecognizedIndicesAreInert : Prop :=
  ∀ (s : State) (reg v : Byte), 0x08 ≤ reg.toNat → reg.toNat ≤ 0x1F →
    (s.Live → exec (.dwUnrecognized reg v) s = .next s.clearOutputs) ∧
    (s.Readable → exec (.drUnrecognized reg) s = .next { s.clearOutputs with ret := some (.byte 0xFF) })

/-- The Config Control register (R143 to R146) with the spec's decisions D22 on the order of the commands and bits 7:3
and D23 on events for an unchanged CSN: bit 0 restores every device's defaults, clears the selections and unmaps the
read port; bit 1 sends every card to WAIT_FOR_KEY; bit 2 clears every CSN; the events of bit 0 come before those of
bit 2. Within a card the events of bit 0 go in descriptor order, which is R144's order of the numbers; past 256 devices,
where the numbers wrap, that is the model's choice (log 16). -/
def Obligations.ConfigControlRunsItsCommands : Prop :=
  ∀ (s : State) (v : Byte), s.Live →
    exec (.dwConfigControl v) s =
      .next { s.clearOutputs with
        cards := s.cards.map fun c =>
          { c with
            lds := if v.getLsbD 0 then c.lds.map (resetLdRegs s.cfg) else c.lds
            state := if v.getLsbD 1 then .waitForKey else c.state
            csn := if v.getLsbD 2 then 0 else c.csn }
        readPort := if v.getLsbD 0 then 0 else s.readPort
        curLd := if v.getLsbD 0 then none else s.curLd
        isolated := if v.getLsbD 0 then none else s.isolated
        events :=
          (if v.getLsbD 0 then
            s.cards.zipIdx.flatMap fun x =>
              if x.1.hooks.cfgCb then
                x.1.lds.map fun d => Event.configChanged x.2 d.number (project (resetLdRegs s.cfg d))
              else []
          else []) ++
          (if v.getLsbD 2 then
            s.cards.zipIdx.flatMap fun x => if x.1.hooks.csnCb then [Event.csnChanged x.2 0] else []
          else []) }

/-- R145: Return to Wait-For-Key sends every card to WAIT_FOR_KEY whatever its state was, and nothing else changes. -/
def Obligations.ReturnToWaitForKeyMovesEveryCard : Prop :=
  ∀ s : State, s.Live →
    exec (.dwConfigControl 0x02) s =
      .next { s.clearOutputs with cards := s.cards.map fun c => { c with state := .waitForKey } }

/-- R252, R42: the default register file, byte by byte, for every setting of the DMA offsets and sentinel (D5). The control
byte of each memory slot stands beside its mask bit. -/
def Obligations.RegisterDefaultsByteByByte : Prop :=
  ∀ (p : Params) (d : LogicalDevice) (r : Byte),
    (resetLdRegs p d).reg r =
      (if r = p.dmaReg0 ∨ r = p.dmaReg1 then p.dmaDisabled else 0x00) |||
        (if ∃ slot ∈ ([(0x42, 0), (0x4A, 1), (0x52, 2), (0x5A, 3), (0x7A, 4), (0x84, 5), (0x94, 6), (0xA4, 7)] :
            List (Byte × Nat)),
          slot.1 = r ∧ d.ulMask.getLsbD slot.2 = true then 0x01 else 0x00) ∧
    (resetLdRegs p d).number = d.number ∧ (resetLdRegs p d).ulMask = d.ulMask

/-- Wake (R147, R148), with the spec's decisions D14 (the toggle) and D6 (the resource pointer): a matching card is
re-seeded and leaves SLEEP, every other card goes to SLEEP. -/
def Obligations.WakeSeedsMatchingCardsAndSleepsTheRest : Prop :=
  ∀ (s : State) (v : Byte), s.Live →
    exec (.dwWake v) s =
      .next { s.clearOutputs with
        cards := s.cards.map fun c =>
          if c.csn = v then
            { c with
              serialPos := 0
              serialPair := false
              romPos := 0
              idChecksum := s.cfg.key[0]
              state := if c.state ≠ .sleep then c.state else if v = 0 then .isolation else .config }
          else { c with state := .sleep } }

/-- R32: the complete card state transition table. Every operation that completes, but machine_init and
machine_teardown, leaves each card of the chain in the state the table says. -/
def Obligations.CardStatesFollowTheTransitionTable : Prop :=
  ∀ (i : Instr) (s t : State) (j : Nat) (c : Card), exec i s = .next t → i ≠ .machineInit → i ≠ .machineTeardown →
    s.cards[j]? = some c →
    ∃ c', t.cards[j]? = some c' ∧
      c'.state =
        match i with
        | .aw v =>
          if s.locked = true ∧ s.keyPos.toNat = 31 ∧ v = s.cfg.key[31] ∧ c.state = .waitForKey then .sleep else c.state
        | .dwConfigControl v => if v.getLsbD 1 then .waitForKey else c.state
        | .dwWake v =>
          if c.csn ≠ v then .sleep
          else if c.state = .sleep then (if v = 0 then .isolation else .config) else c.state
        | .dwCsn _ => if s.isolated = some j then .config else c.state
        | _ => c.state

/-- Resource Data (R149), with the spec's decision D24 past the end: the next ROM byte of the first CONFIG card, 0xFF and
no advance past the end, 0xFF with no card in CONFIG. -/
def Obligations.ResourceDataReadsTheNextRomByte : Prop :=
  ∀ s : State, s.Readable →
    (s.NoneIn .config → exec .drResourceData s = .next { s.clearOutputs with ret := some (.byte 0xFF) }) ∧
    (∀ i c, s.FirstIn .config i c → ∀ b, c.rom[c.romPos]? = some b →
      exec .drResourceData s =
        .next { s.clearOutputs with
          cards := s.cards.set i { c with romPos := c.romPos + 1 }
          ret := some (.byte b) }) ∧
    (∀ i c, s.FirstIn .config i c → c.rom.length ≤ c.romPos →
      exec .drResourceData s = .next { s.clearOutputs with ret := some (.byte 0xFF) })

/-- R150: Status reads 0x01 where some card is in CONFIG, else 0x00. -/
def Obligations.StatusReadsConfigPresence : Prop :=
  ∀ s : State, s.Readable →
    exec .drStatus s =
      .next { s.clearOutputs with
        ret := some (.byte (if ∃ c ∈ s.cards, c.state = .config then 0x01 else 0x00)) }

/-- R151: the CSN of the first CONFIG card, 0x00 with none. -/
def Obligations.CsnReadReturnsTheConfigCardsCsn : Prop :=
  ∀ s : State, s.Readable →
    (s.NoneIn .config → exec .drCsn s = .next { s.clearOutputs with ret := some (.byte 0x00) }) ∧
    (∀ i c, s.FirstIn .config i c → exec .drCsn s = .next { s.clearOutputs with ret := some (.byte c.csn) })

/-- The CSN write (R152), with the spec's decision D23: the marked card alone takes the CSN, enters CONFIG and announces
it, the marker is cleared; with no marker the write is dropped. -/
def Obligations.CsnWriteConfiguresTheIsolatedCard : Prop :=
  ∀ (s : State) (v : Byte), s.Live →
    (s.isolated = none → exec (.dwCsn v) s = .next s.clearOutputs) ∧
    (∀ i c, s.isolated = some i → s.cards[i]? = some c →
      exec (.dwCsn v) s =
        .next { s.clearOutputs with
          cards := s.cards.set i { c with csn := v, state := .config }
          isolated := none
          events := if c.hooks.csnCb then [.csnChanged i v] else [] })

/-- The LDN read (R153), with the spec's decision D25 for nothing selected. -/
def Obligations.LdnReadReturnsTheSelectedNumber : Prop :=
  ∀ s : State, s.Readable →
    (s.curLd = none → exec .drLdn s = .next { s.clearOutputs with ret := some (.byte 0xFF) }) ∧
    (∀ ref c d, s.Selected ref c d →
      exec .drLdn s = .next { s.clearOutputs with ret := some (.byte d.number) })

/-- The LDN write (R154), the fatal case with the spec's decision D11 (R284): dropped with no card in CONFIG; selects the
first CONFIG card's device with that number; fatal where it has none, the selection unchanged. That of several devices with
one number, past 256 devices on a card, the first in descriptor order is selected, is the model's (log 16). -/
def Obligations.LdnWriteSelectsOrIsFatal : Prop :=
  ∀ (s : State) (v : Byte), s.Live →
    (s.NoneIn .config → exec (.dwLdn v) s = .next s.clearOutputs) ∧
    (∀ i c k d, s.FirstIn .config i c → c.lds[k]? = some d → d.number = v → (∀ e ∈ c.lds.take k, e.number ≠ v) →
      exec (.dwLdn v) s = .next { s.clearOutputs with curLd := some ⟨i, k⟩ }) ∧
    (∀ i c, s.FirstIn .config i c → (∀ d ∈ c.lds, d.number ≠ v) →
      exec (.dwLdn v) s =
        .next { s.clearOutputs with fault := some .unknownLdn, events := [.fatal .unknownLdn v] })

/-! ### Serial isolation -/

/-- One isolation read (R180 to R187), with the spec's decisions D4, D6, D15, D26, D27, D28: 0xFF and no marker with no
card in ISOLATION; else the first such card is marked and alone advances, by the first pulse of an identity bit, the
first pulse of a checksum bit (which stores the checksum at position 64), or the second pulse of a bit. -/
def Obligations.IsolationReadSendsOnePulse : Prop :=
  ∀ s : State, s.Readable →
    (s.NoneIn .isolation →
      exec .drSerialIsolation s = .next { s.clearOutputs with isolated := none, ret := some (.byte 0xFF) }) ∧
    (∀ i c, s.FirstIn .isolation i c → c.serialPair = false → c.serialPos.val < 64 →
      ∀ bit, bit = (c.rom.getD (c.serialPos.val / 8) 0).getLsbD (c.serialPos.val % 8) →
      exec .drSerialIsolation s =
        .next { s.clearOutputs with
          isolated := some i
          cards := s.cards.set i
            { c with
              idChecksum := (c.idChecksum >>> 1) |||
                (if ((c.idChecksum.getLsbD s.cfg.lfsrTapA.val ^^ c.idChecksum.getLsbD s.cfg.lfsrTapB.val) ^^ bit)
                  then 0x80 else 0x00)
              serialLatch := bit
              serialPair := true }
          ret := some (.byte (if bit then 0x55 else 0x00)) }) ∧
    (∀ i c, s.FirstIn .isolation i c → c.serialPair = false → 64 ≤ c.serialPos.val →
      exec .drSerialIsolation s =
        .next { s.clearOutputs with
          isolated := some i
          cards := s.cards.set i
            { c with
              rom := if c.serialPos.val = 64 then c.rom.set 8 c.idChecksum else c.rom
              serialLatch := c.idChecksum.getLsbD (c.serialPos.val - 64)
              serialPair := true }
          ret := some (.byte (if c.idChecksum.getLsbD (c.serialPos.val - 64) then 0x55 else 0x00)) }) ∧
    (∀ i c, s.FirstIn .isolation i c → c.serialPair = true →
      exec .drSerialIsolation s =
        .next { s.clearOutputs with
          isolated := some i
          cards := s.cards.set i
            { c with
              serialPair := false
              serialPos := if c.serialPos.val = 71 then 0 else c.serialPos + 1
              romPos := if c.serialPos.val = 71 then s.cfg.romPosAfterIsolation.getD c.romPos else c.romPos }
          ret := some (.byte (if c.serialLatch then 0xAA else s.cfg.pulse2Zero)) })

/-- R189 (with D4, D6, D14, D15, D27, D28): after a matching Wake, 144 pulses of a card with a header leave it at position
0 with the identity checksum in `rom[8]` and in the checksum register, and the 144 bytes are the first and the second
pulse of each bit of the nine header bytes as they stand afterwards, least significant bit first. -/
def Obligations.IsolationPassSendsTheHeader : Prop :=
  ∀ (p : Params) (c : Card), 9 ≤ c.rom.length →
    ∃ latch,
      (Card.pulses p 144 (c.wake p c.csn)).1 =
        { c.wake p c.csn with
          rom := c.rom.set 8 (c.identityChecksum p)
          idChecksum := c.identityChecksum p
          serialLatch := latch
          romPos := p.romPosAfterIsolation.getD 0 } ∧
      (Card.pulses p 144 (c.wake p c.csn)).2 =
        (List.range 72).flatMap fun k =>
          if ((c.rom.set 8 (c.identityChecksum p)).getD (k / 8) 0).getLsbD (k % 8) then [0x55, 0xAA]
          else [0x00, p.pulse2Zero]

/-! ### Vendor registers -/

/-- Card-scope vendor registers (R200, R201), the device number passed being the parameter of D8. The byte read is the
free vendor byte of the question asked (log 5). -/
def Obligations.VendorCardAccessesReachTheConfigCard : Prop :=
  ∀ (s : State) (reg v : Byte),
    (s.Readable → s.NoneIn .config →
      exec (.drVendorCard reg) s = .next { s.clearOutputs with ret := some (.byte 0xFF) }) ∧
    (∀ i c, s.Readable → s.FirstIn .config i c → c.hooks.vendorRead = false →
      exec (.drVendorCard reg) s = .next { s.clearOutputs with ret := some (.byte 0xFF) }) ∧
    (∀ i c, s.Readable → s.FirstIn .config i c → c.hooks.vendorRead = true →
      exec (.drVendorCard reg) s =
        .next { s.clearOutputs with
          ret := some (.byte (Config.vendorByte s.asks))
          asked := some ⟨i, s.cfg.vendorCardLdn, reg⟩
          asks := s.asks + 1 }) ∧
    (s.Live → s.NoneIn .config → exec (.dwVendorCard reg v) s = .next s.clearOutputs) ∧
    (∀ i c, s.Live → s.FirstIn .config i c →
      exec (.dwVendorCard reg v) s =
        .next { s.clearOutputs with
          events := if c.hooks.vendorWrite then [.vendorWrite i s.cfg.vendorCardLdn reg v] else [] })

/-- R207: a device-scope vendor read asks the owning card's hook with the device's number; without a selection or a hook
it returns 0xFF. The byte is the free vendor byte of the question asked (log 5). -/
def Obligations.VendorDeviceReadAsksTheOwningCard : Prop :=
  ∀ (s : State) (reg : Byte), s.Readable →
    (s.curLd = none → exec (.drVendorLd reg) s = .next { s.clearOutputs with ret := some (.byte 0xFF) }) ∧
    (∀ ref c d, s.Selected ref c d → c.hooks.vendorRead = false →
      exec (.drVendorLd reg) s = .next { s.clearOutputs with ret := some (.byte 0xFF) }) ∧
    (∀ ref c d, s.Selected ref c d → c.hooks.vendorRead = true →
      exec (.drVendorLd reg) s =
        .next { s.clearOutputs with
          ret := some (.byte (Config.vendorByte s.asks))
          asked := some ⟨ref.card, d.number, reg⟩
          asks := s.asks + 1 })

/-- R208: a device-scope vendor write hands the byte to the owning card's hook with the device's number, and stores
nothing. -/
def Obligations.VendorDeviceWriteEmitsOneEvent : Prop :=
  ∀ (s : State) (reg v : Byte), s.Live →
    (s.curLd = none → exec (.dwVendorLd reg v) s = .next s.clearOutputs) ∧
    (∀ ref c d, s.Selected ref c d →
      exec (.dwVendorLd reg v) s =
        .next { s.clearOutputs with
          events := if c.hooks.vendorWrite then [.vendorWrite ref.card d.number reg v] else [] })

/-! ### Logical-device registers -/

/-- Device-register reads (R202, R204, R209; R211 and its decision D29): the byte of the selected device's file, 0xFF with
nothing selected, no state change. -/
def Obligations.DeviceReadsReturnTheRegister : Prop :=
  ∀ (i : Instr) (r : Byte) (s : State), s.Readable →
    ((i = .drActivate ∧ r = 0x30) ∨ (i = .drIoRangeCheck ∧ r = 0x31) ∨ i = .drGeneric r) →
    (s.curLd = none → exec i s = .next { s.clearOutputs with ret := some (.byte 0xFF) }) ∧
    (∀ ref c d, s.Selected ref c d →
      exec i s = .next { s.clearOutputs with ret := some (.byte (Memory.read d.regs r.toNat)) })

/-- R203: an Activate write stores bit 0 alone and fires the projector, whether or not the byte changes. -/
def Obligations.ActivateWriteStoresBitZeroAndFires : Prop :=
  ∀ (s : State) (v : Byte), s.Live →
    (s.curLd = none → exec (.dwActivate v) s = .next s.clearOutputs) ∧
    (∀ ref c d, s.Selected ref c d → ∀ d', d' = d.setReg 0x30 (v &&& 0x01) →
      exec (.dwActivate v) s =
        .next { s.clearOutputs with
          cards := s.cards.set ref.card { c with lds := c.lds.set ref.device d' }
          events := if c.hooks.cfgCb then [.configChanged ref.card d.number (project d')] else [] })

/-- R205: an I/O Range Check write stores bits 1:0 and fires nothing. -/
def Obligations.RangeCheckWriteStoresTwoBits : Prop :=
  ∀ (s : State) (v : Byte), s.Live →
    (s.curLd = none → exec (.dwIoRangeCheck v) s = .next s.clearOutputs) ∧
    (∀ ref c d, s.Selected ref c d →
      exec (.dwIoRangeCheck v) s =
        .next { s.clearOutputs with
          cards := s.cards.set ref.card { c with lds := c.lds.set ref.device (d.setReg 0x31 (v &&& 0x03)) } })

/-- R210: a generic write keeps bit 0 at the eight upper-limit offsets, stores every other byte verbatim, and fires the
projector. -/
def Obligations.GenericWriteKeepsUpperLimitFlags : Prop :=
  ∀ (s : State) (reg v : Byte), s.Live →
    (s.curLd = none → exec (.dwGeneric reg v) s = .next s.clearOutputs) ∧
    (∀ ref c d, s.Selected ref c d →
      ∀ d', d' = d.setReg reg
        (if reg ∈ [(0x42 : Byte), 0x4A, 0x52, 0x5A, 0x7A, 0x84, 0x94, 0xA4] then
          (v &&& 0xFE) ||| (Memory.read d.regs reg.toNat &&& 0x01) else v) →
      exec (.dwGeneric reg v) s =
        .next { s.clearOutputs with
          cards := s.cards.set ref.card { c with lds := c.lds.set ref.device d' }
          events := if c.hooks.cfgCb then [.configChanged ref.card d.number (project d')] else [] })

/-- The frame of the three device-register writes (R203, R205, R210, R212): in a state whose register files are canonical
each completes, the named byte of the selected device reads as stored, and every other byte of every register file
reads as before. -/
def Obligations.DeviceWriteLeavesEveryOtherByte : Prop :=
  ∀ (i : Instr) (r b : Byte) (s : State) (ref : DeviceRef) (c : Card) (d : LogicalDevice),
    s.Live → s.RegisterFilesCanonical → s.Selected ref c d →
    ((∃ v, i = .dwActivate v ∧ r = 0x30 ∧ b = v &&& 0x01) ∨ (∃ v, i = .dwIoRangeCheck v ∧ r = 0x31 ∧ b = v &&& 0x03) ∨
      (∃ v, i = .dwGeneric r v ∧ b = genericStored r (d.reg r) v)) →
    ∃ t, exec i s = .next t ∧
      ∀ j k cj dk, s.cards[j]? = some cj → cj.lds[k]? = some dk →
        ∃ cj' dk', t.cards[j]? = some cj' ∧ cj'.lds[k]? = some dk' ∧ dk'.number = dk.number ∧ dk'.ulMask = dk.ulMask ∧
          ∀ a : Nat,
            Memory.read dk'.regs a =
              if j = ref.card ∧ k = ref.device ∧ a = r.toNat then b else Memory.read dk.regs a

/-- R209, R210: a generic register written through a mapped controller reads back what the write stored, bit 0 of an
upper-limit offset being the old one. -/
def Obligations.GenericWriteReadsBack : Prop :=
  ∀ (s : State) (reg v : Byte) (ref : DeviceRef) (c : Card) (d : LogicalDevice),
    s.Readable → s.RegisterFilesCanonical → s.Selected ref c d →
    ∃ t u, exec (.dwGeneric reg v) s = .next t ∧ exec (.drGeneric reg) t = .next u ∧
      u.ret = some (.byte (genericStored reg (d.reg reg) v)) ∧ u.cards = t.cards

/-! ### Range-check responders -/

/-- The responders (R206, the spec's decision D30; log 6 for an address without one): the first device in chain and
descriptor order, which is R206's order of the numbers (past 256 devices on a card the model's choice, log 16), whose register 0x31 has bit 1 set and one of whose eight nonzero I/O bases is the address answers 0x55 or 0xAA by
bit 0; nothing changes. -/
def Obligations.RangeCheckReadAnswersTheFirstDevice : Prop :=
  ∀ (s : State) (a : Port), s.Live →
    let inSet := fun d : LogicalDevice =>
      (d.reg 0x31).getLsbD 1 = true ∧ a ≠ 0 ∧
        ∃ k, k < 8 ∧ a = d.reg (BitVec.ofNat 8 (0x60 + 2 * k)) ++ d.reg (BitVec.ofNat 8 (0x61 + 2 * k))
    ((∀ c ∈ s.cards, ∀ d ∈ c.lds, ¬ inSet d) → exec (.rc a) s = .next s.clearOutputs) ∧
    (∀ before d after, s.cards.flatMap (fun c => c.lds) = before ++ d :: after → (∀ e ∈ before, ¬ inSet e) → inSet d →
      exec (.rc a) s =
        .next { s.clearOutputs with ret := some (.byte (if (d.reg 0x31).getLsbD 0 then 0x55 else 0xAA)) })

/-- R206 (D30): the Reset command removes every responder, whatever else the Config Control byte asks for. -/
def Obligations.ResetCommandRemovesEveryResponder : Prop :=
  ∀ (s : State) (v : Byte), s.Live → SaneParams s.cfg → v.getLsbD 0 = true →
    ∃ t, exec (.dwConfigControl v) s = .next t ∧ ∀ a, t.responder a = none

/-! ### Host calls and the ROM parser -/

/-- add_card (R240, R250; the spec's decisions D9, D11, D12, D13, D16, D31; log 13, log 20): a ROM that parses gives one
card at the tail in its attach state and returns its index; a fifth memory slot is fatal and attaches nothing; a ROM
without a header is refused. -/
def Obligations.AddCardAttachesAtTheTail : Prop :=
  ∀ (s : State) (rom : List Byte) (hooks : Hooks), s.Live →
    (∀ lds, 9 ≤ rom.length → parseRom s.cfg (storeResourceChecksum rom) = .ok lds →
      exec (.addCard rom hooks) s =
        .next { s.clearOutputs with
          cards := s.cards ++ [
            { state := .waitForKey, csn := 0, idChecksum := 0, serialPos := 0, serialPair := false,
              serialLatch := false, rom := storeResourceChecksum rom, romPos := 0, lds := lds, hooks := hooks }]
          ret := some (.card s.cards.length) }) ∧
    (∀ fam, 9 ≤ rom.length → parseRom s.cfg (storeResourceChecksum rom) = .error fam →
      exec (.addCard rom hooks) s =
        .next { s.clearOutputs with
          fault := some .tooManyMemSlots
          events := [.fatal .tooManyMemSlots (if fam = .bits16 then 16 else 32)] }) ∧
    (rom.length < 9 → exec (.addCard rom hooks) s = .refused (.romTooShort rom.length))

/-- R243: the stored resource checksum makes the bytes from offset 9 sum to 0 modulo 256 and changes the last byte alone;
a nine-byte ROM is left as it is (D32). -/
def Obligations.ResourceChecksumMakesTheSumZero : Prop :=
  ∀ rom : List Byte,
    (storeResourceChecksum rom).length = rom.length ∧
    (∀ k, k + 1 ≠ rom.length → (storeResourceChecksum rom)[k]? = rom[k]?) ∧
    (10 ≤ rom.length → (((storeResourceChecksum rom).drop 9).map BitVec.toNat).sum % 256 = 0) ∧
    (rom.length ≤ 9 → storeResourceChecksum rom = rom)

/-- R244, R245, R250, R252 (log 16): parsing acts on the items of the descriptor stream in order, from the start, up to the
first fatal one, and finalizes the open device at the end. A parsed ROM has one device for each logical-device item, and
they are numbered in descriptor order from 0 and hold their default registers. What the items of a stream are is
DescriptorStreamIsReadItemByItem, what each does is ItemsActByTheirTag. -/
def Obligations.ParsedDevicesAreNumberedWithDefaults : Prop :=
  (∀ (p : Params) (rom : List Byte) (lds : List LogicalDevice), parseRom p rom = .ok lds →
    lds.length = ((descriptorItems rom).filter fun it => !it.large && it.tag == 2).length ∧
    ∀ k d, lds[k]? = some d → d.number = BitVec.ofNat 8 k ∧ d = resetLdRegs p d) ∧
  ParserState.start = ⟨[], none, 0, 0, 0, 0, false⟩ ∧
  (∀ (p : Params) (ps : ParserState), ps.actAll p [] = .ok ps) ∧
  (∀ (p : Params) (ps ps' : ParserState) (item : RomItem) (items : List RomItem),
    ps.act p item = .ok ps' → ps.actAll p (item :: items) = ps'.actAll p items) ∧
  (∀ (p : Params) (ps : ParserState) (item : RomItem) (items : List RomItem) (fam : MemFamily),
    ps.act p item = .error fam → ps.actAll p (item :: items) = .error fam) ∧
  (∀ (p : Params) (rom : List Byte),
    (∀ fam, ParserState.start.actAll p (descriptorItems rom) = .error fam → parseRom p rom = .error fam) ∧
    (∀ ps, ParserState.start.actAll p (descriptorItems rom) = .ok ps → ps.current = none →
      parseRom p rom = .ok ps.finished) ∧
    (∀ ps d, ParserState.start.actAll p (descriptorItems rom) = .ok ps → ps.current = some d →
      parseRom p rom = .ok (ps.finished ++ [resetLdRegs p d])))

/-- R246: the first dependent-function group saves the slot counters, a later one restores them; so two alternatives that
each declare one 16-bit range take the same slot. Their priority bytes, if any, are skipped. The mask they leave is R248's,
with the spec's decision D7 for a clear flag. -/
def Obligations.DependentAlternativesTakeTheSameSlot : Prop :=
  (∀ ps : ParserState, ps.inDf = false →
    ps.startDependent = { ps with s16 := ps.m16, s32 := ps.m32, inDf := true }) ∧
  (∀ ps : ParserState, ps.inDf = true → ps.startDependent = { ps with m16 := ps.s16, m32 := ps.s32 }) ∧
  (∀ (p : Params) (ps : ParserState) (d : LogicalDevice) (a b pr qr : List Byte),
    ps.current = some d → ps.inDf = false → ps.m16 < 4 →
    ParserState.actAll p ps [⟨false, 6, pr⟩, ⟨true, 1, a⟩, ⟨false, 6, qr⟩, ⟨true, 1, b⟩] =
      .ok { ps with
        s16 := ps.m16
        s32 := ps.m32
        inDf := true
        m16 := ps.m16 + 1
        current := some { d with
          ulMask := mergeMask p.ulMaskMerge (mergeMask p.ulMaskMerge d.ulMask ps.m16 (upperLimitFlag a)) ps.m16
            (upperLimitFlag b) } })

/-- R248, R250: a memory item takes the next free slot of its family and sets that slot's mask bit when bit 2 of its first
payload byte is set; with four slots taken it is fatal; before the first device it is skipped (D33). A clear flag acts
as the parameter of D7 says. Nothing else of the parser changes. -/
def Obligations.MemoryItemsTakeFourSlots : Prop :=
  ∀ (p : Params) (ps : ParserState) (fam : MemFamily) (payload : List Byte),
    let taken := if fam = .bits16 then ps.m16 else ps.m32
    (ps.current = none → ps.memoryRange p fam payload = .ok ps) ∧
    (∀ d, ps.current = some d → 4 ≤ taken → ps.memoryRange p fam payload = .error fam) ∧
    (∀ d, ps.current = some d → taken < 4 →
      ∃ mask : Byte, ps.memoryRange p fam payload = .ok { ps with
          m16 := if fam = .bits16 then ps.m16 + 1 else ps.m16
          m32 := if fam = .bits32 then ps.m32 + 1 else ps.m32
          current := some { d with ulMask := mask } } ∧
        ∀ k, k < 8 →
          mask.getLsbD k =
            if k = (if fam = .bits16 then 0 else 4) + taken then
              ((payload.head?.map fun b => b.getLsbD 2).getD false || (p.ulMaskMerge == .or && d.ulMask.getLsbD k))
            else d.ulMask.getLsbD k)

/-- set_csn (R258, the spec's decision D23; log 12 for a handle of no card): the card takes the CSN and announces it;
its state does not change. -/
def Obligations.SetCsnForcesTheCsn : Prop :=
  ∀ (s : State) (card : BitVec 32) (v : Byte), s.Live →
    (∀ c, s.cards[card.toNat]? = some c →
      exec (.setCsn card v) s =
        .next { s.clearOutputs with
          cards := s.cards.set card.toNat { c with csn := v }
          events := if c.hooks.csnCb then [.csnChanged card.toNat v] else [] }) ∧
    (s.cards.length ≤ card.toNat → exec (.setCsn card v) s = .next s.clearOutputs)

/-- machine_init and machine_teardown (R300, R301; the spec's decisions D10, D11; log 10, log 21): from every state, a
fatal one included, machine_init gives the reset values; machine_teardown leaves no controller. -/
def Obligations.InitAndTeardownOfTheController : Prop :=
  ∀ s : State,
    exec .machineInit s =
      .next { State.reset with cfg := s.cfg, pending := s.pending, asks := s.asks } ∧
    (s.Live → exec .machineTeardown s =
      .next { State.reset with alive := false, cfg := s.cfg, pending := s.pending, asks := s.asks })

/-! ### Faults -/

/-- R286 and R300 (the spec's decision D11; log 9, log 10): on a faulted controller, and without a controller, every
operation but machine_init stops. So does every access, an unclaimed one and a refused one among them; that the block
does not pass over an access that is no operation is the model's choice (log 23). -/
def Obligations.NothingRunsAfterAFaultOrTeardown : Prop :=
  (∀ (i : Instr) (s : State), i ≠ .machineInit →
    (∀ k, s.alive = true → s.fault = some k → exec i s = .fault (.sessionOver k)) ∧
    (s.alive = false → exec i s = .fault .noController)) ∧
  (∀ (s : State) (r : Request) (rest : List Request), ¬ s.Live → r ≠ .machineInit → s.pending = r :: rest →
    ∀ t, step s ≠ .next t)

/-- R281, R289: on a live controller every operation of the spec completes; no guard failure stops the machine. The ROM
of add_card has its header (D16, log 13), and a read that nothing claims completes without an answer (log 6). -/
def Obligations.LiveOperationsComplete : Prop :=
  ∀ (i : Instr) (s : State), s.Live → i.wellFormed = true → ∃ t, exec i s = .next t

/-- R285: the complete list of fatal errors. A completed operation leaves the machine faulted exactly when it is a DW.LDN
whose number no device of the first CONFIG card has, or an add_card whose ROM has a fifth memory item of one family;
the event carries the number, respectively the family. That `fault` stays set is the spec's decision D11. -/
def Obligations.FatalErrorsAreTheTwoListed : Prop :=
  ∀ (i : Instr) (s t : State) (k : FatalKind), s.Live → exec i s = .next t →
    (t.fault = some k ↔
      ((k = .unknownLdn ∧ ∃ v j c, i = .dwLdn v ∧ s.FirstIn .config j c ∧ (∀ d ∈ c.lds, d.number ≠ v) ∧
          t.events = [.fatal .unknownLdn v]) ∨
        (k = .tooManyMemSlots ∧ ∃ rom hooks fam, i = .addCard rom hooks ∧
          parseRom s.cfg (storeResourceChecksum rom) = .error fam ∧
          t.events = [.fatal .tooManyMemSlots (if fam = .bits16 then 16 else 32)])))

/-! ### Who writes what -/

/-- R22, R23, R25, R26, R27, R52: the writers of the controller's fields. Of the operations that complete, machine_init
and machine_teardown aside, only AW changes `reg` and `key_pos`, only DW.SET_RD_PORT and DW.CONFIG_CONTROL
`read_port`, and so on; the parameters and the pending accesses are never touched. The list is read off all the rules
together; machine_init and machine_teardown are R300's, the last three fields the model's (log 1, log 2, log 10). -/
def Obligations.ControllerFieldsHaveTheseWriters : Prop :=
  ∀ (i : Instr) (s t : State), exec i s = .next t → i ≠ .machineInit → i ≠ .machineTeardown →
    ((∀ v, i ≠ .aw v) → t.reg = s.reg ∧ t.keyPos = s.keyPos) ∧
    ((∀ v, i ≠ .dwSetRdPort v) → (∀ v, i ≠ .dwConfigControl v) → t.readPort = s.readPort) ∧
    (i ≠ .drSerialIsolation → (∀ v, i ≠ .dwCsn v) → (∀ v, i ≠ .dwConfigControl v) → t.isolated = s.isolated) ∧
    ((∀ v, i ≠ .dwLdn v) → (∀ v, i ≠ .dwConfigControl v) → t.curLd = s.curLd) ∧
    t.alive = s.alive ∧ t.cfg = s.cfg ∧ t.pending = s.pending

/-- R33 to R42, R49: the writers of a card's fields. Every card of the chain is still there after every completed
operation, machine_init and machine_teardown aside; its CSN, positions, checksum and pointer change only by the
operations named, its hooks and its devices' numbers and masks never, its devices' registers only by the four writing
operations; its ROM changes only at byte 8, by a Serial Isolation read. The list is read off all the rules together, the
spec's decisions D6, D14 and D15 on the isolation fields among them. -/
def Obligations.CardFieldsHaveTheseWriters : Prop :=
  ∀ (i : Instr) (s t : State) (j : Nat) (c : Card), exec i s = .next t → i ≠ .machineInit → i ≠ .machineTeardown →
    s.cards[j]? = some c →
    ∃ c', t.cards[j]? = some c' ∧
      ((∀ v, i ≠ .dwCsn v) → (∀ v, i ≠ .dwConfigControl v) → (∀ h v, i ≠ .setCsn h v) → c'.csn = c.csn) ∧
      ((∀ v, i ≠ .dwWake v) → i ≠ .drSerialIsolation →
        c'.idChecksum = c.idChecksum ∧ c'.serialPos = c.serialPos ∧ c'.serialPair = c.serialPair) ∧
      (i ≠ .drSerialIsolation → c'.serialLatch = c.serialLatch ∧ c'.rom = c.rom) ∧
      ((∀ v, i ≠ .dwWake v) → i ≠ .drSerialIsolation → i ≠ .drResourceData → c'.romPos = c.romPos) ∧
      c'.rom.length = c.rom.length ∧ (∀ a, a ≠ 8 → c'.rom[a]? = c.rom[a]?) ∧
      c'.hooks = c.hooks ∧
      c'.lds.map (fun d => (d.number, d.ulMask)) = c.lds.map (fun d => (d.number, d.ulMask)) ∧
      ((∀ v, i ≠ .dwConfigControl v) → (∀ v, i ≠ .dwActivate v) → (∀ v, i ≠ .dwIoRangeCheck v) →
        (∀ r v, i ≠ .dwGeneric r v) → c'.lds = c.lds)

/-- R67: the DATA reads other than those at 0x01, 0x04 and the vendor indices, and the range-check read, change nothing but
the byte returned. Unmapped or unanswered, they change nothing at all (log 6). -/
def Obligations.OtherReadsChangeNothing : Prop :=
  ∀ (i : Instr) (s t : State), exec i s = .next t →
    (i = .drSetRdPort ∨ i = .drConfigControl ∨ i = .drWake ∨ i = .drStatus ∨ i = .drCsn ∨ i = .drLdn ∨
      (∃ r, i = .drUnrecognized r) ∨ i = .drActivate ∨ i = .drIoRangeCheck ∨ (∃ r, i = .drGeneric r) ∨
      (∃ a, i = .rc a)) →
    t = { s.clearOutputs with ret := t.ret }

/-! ### The projection -/

/-- The projection (R256; the offsets and the D35 wrap are the spec's own supply): sizes are limit minus base where the
slot's mask bit is set, else the length. -/
def Obligations.ProjectionExposesSizes : Prop :=
  ∀ d : LogicalDevice,
    (∀ k, ∀ h : k < 4,
      let r := fun o : Nat => (Memory.read d.regs o).toNat
      let base := r (0x40 + 8 * k) * 65536 + r (0x41 + 8 * k) * 256
      let lim := r (0x43 + 8 * k) * 65536 + r (0x44 + 8 * k) * 256
      ((project d).mem[k]'h).base.toNat = base ∧
        ((project d).mem[k]'h).size.toNat = if d.ulMask.getLsbD k then (lim + 4294967296 - base) % 4294967296 else lim) ∧
    (∀ k, ∀ h : k < 4,
      let r := fun o : Nat => (Memory.read d.regs o).toNat
      let o := if k = 0 then 0x76 else 0x70 + 16 * k
      let base := r o * 16777216 + r (o + 1) * 65536 + r (o + 2) * 256 + r (o + 3)
      let lim := r (o + 5) * 16777216 + r (o + 6) * 65536 + r (o + 7) * 256 + r (o + 8)
      ((project d).mem32[k]'h).base.toNat = base ∧
        ((project d).mem32[k]'h).size.toNat =
          if d.ulMask.getLsbD (4 + k) then (lim + 4294967296 - base) % 4294967296 else lim) ∧
    (∀ k, ∀ h : k < 8,
      ((project d).io[k]'h).toNat =
        (Memory.read d.regs (0x60 + 2 * k)).toNat * 256 + (Memory.read d.regs (0x61 + 2 * k)).toNat) ∧
    (∀ k, ∀ h : k < 2,
      (project d).irq[k]'h =
        { line := Memory.read d.regs (0x70 + 2 * k)
          level := (Memory.read d.regs (0x71 + 2 * k)).getLsbD 1
          type := (Memory.read d.regs (0x71 + 2 * k)).getLsbD 0 } ∧
      (project d).dma[k]'h = Memory.read d.regs (0x74 + k)) ∧
    (project d).activate = (Memory.read d.regs 0x30).getLsbD 0

/-! ### Invariants -/

/-- Every step keeps every register file in canonical form (R40; log 15). -/
def Obligations.StepKeepsRegisterFilesCanonical : Prop :=
  ∀ s t : State, s.RegisterFilesCanonical → step s = .next t → t.RegisterFilesCanonical

/-- I1 and I2 of R312 (the spec derives them; they rest on the reset values of D10): while the first card waits for the
key, `reg` is 0x00 or 0x02; otherwise `key_pos` is 0. Every step keeps them. -/
def Obligations.StepKeepsTheLockInvariant : Prop :=
  ∀ s t : State, s.LockInvariant → step s = .next t → t.LockInvariant

/-- R38 to R42, R202, R204, R210: every step keeps the invariant of the attached cards (a whole header, the spec's decision
D16; the resource pointer in bounds, D6; devices numbered in order, modulo 256 by the model's choice, log 16; Activate and
range check within their kept bits; the read-only flags equal to the mask; the unreached indices 0). -/
def Obligations.StepKeepsTheCardsInvariant : Prop :=
  ∀ s t : State, s.CardsInvariant → step s = .next t → t.CardsInvariant

/-- R25, R26, R27, R64: every step keeps `read_port` 0 or legal and the two references pointing at attached cards and
their devices. -/
def Obligations.StepKeepsReferencesAndReadPort : Prop :=
  ∀ s t : State, s.ReadPortLegal → s.ReferencesValid → step s = .next t → t.ReadPortLegal ∧ t.ReferencesValid

/-- R52: no step changes the machine's parameters (log 2). -/
def Obligations.StepKeepsTheParameters : Prop :=
  ∀ s t : State, step s = .next t → t.cfg = s.cfg

/-- R301 (with the spec's decisions D10, D11): the reset state has the values of the table and meets every invariant. Its
parameters are the defaults of R6 and R8, several of which the spec supplies from general knowledge (log 2); that a
controller exists and that nothing is pending are the model's fields (log 10, log 1). -/
def Obligations.ResetHasItsValuesAndMeetsTheInvariants : Prop :=
  (State.reset.reg = 0x00 ∧ State.reset.keyPos = 0 ∧ State.reset.readPort = 0 ∧ State.reset.cards = [] ∧
    State.reset.isolated = none ∧ State.reset.curLd = none ∧ State.reset.fault = none) ∧
  State.reset.alive = true ∧ State.reset.pending = [] ∧
  State.reset.cfg =
    { addressPort := 0x0279, writeDataPort := 0x0A79,
      key := #v[0x6A, 0xB5, 0xDA, 0xED, 0xF6, 0xFB, 0x7D, 0xBE, 0xDF, 0x6F, 0x37, 0x1B, 0x0D, 0x86, 0xC3, 0x61,
        0xB0, 0x58, 0x2C, 0x16, 0x8B, 0x45, 0xA2, 0xD1, 0xE8, 0x74, 0x3A, 0x9D, 0xCE, 0xE7, 0x73, 0x39],
      lfsrTapA := 5, lfsrTapB := 6, pulse2Zero := 0x00, dmaReg0 := 0x74, dmaReg1 := 0x75, dmaDisabled := 0x04,
      romPosAfterIsolation := some 9, ulMaskMerge := .or, vendorCardLdn := 0x00 } ∧
  State.reset.RegisterFilesCanonical ∧ State.reset.LockInvariant ∧ State.reset.CardsInvariant ∧
  State.reset.ReadPortLegal ∧ State.reset.ReferencesValid

/-! ### The descriptor stream -/

/-- R244 (the spec's decision D33 for the silent stops): what the first item of a stream is. A small item has its tag in
bits 6:3 and its length in bits 2:0 of its one header byte, a large one its tag in bits 6:0 and a 16-bit length, low byte
first; an item whose header or payload would pass the end ends the stream, and so does the end of the buffer. The stream
starts at byte 9 and each item starts where the one before it ends. Every first byte is of one of the two forms. -/
def Obligations.DescriptorStreamIsReadItemByItem : Prop :=
  (∀ (tag : Nat) (payload rest : List Byte), tag < 16 → payload.length < 8 →
    nextItem (BitVec.ofNat 8 (8 * tag + payload.length) :: (payload ++ rest)) = some (⟨false, tag, payload⟩, rest)) ∧
  (∀ (tag : Nat) (payload rest : List Byte), tag < 128 → payload.length < 65536 →
    nextItem (BitVec.ofNat 8 (128 + tag) :: BitVec.ofNat 8 (payload.length % 256) ::
      BitVec.ofNat 8 (payload.length / 256) :: (payload ++ rest)) = some (⟨true, tag, payload⟩, rest)) ∧
  (∀ (tag n : Nat) (bytes : List Byte), tag < 16 → n < 8 → bytes.length < n →
    nextItem (BitVec.ofNat 8 (8 * tag + n) :: bytes) = none) ∧
  (∀ (tag n : Nat) (bytes : List Byte), tag < 128 → n < 65536 → bytes.length < n →
    nextItem (BitVec.ofNat 8 (128 + tag) :: BitVec.ofNat 8 (n % 256) :: BitVec.ofNat 8 (n / 256) :: bytes) = none) ∧
  (∀ (tag : Nat) (bytes : List Byte), tag < 128 → bytes.length < 2 →
    nextItem (BitVec.ofNat 8 (128 + tag) :: bytes) = none) ∧
  nextItem [] = none ∧
  (∀ (rom : List Byte), nextItem (rom.drop 9) = none → descriptorItems rom = []) ∧
  (∀ (header bytes rest : List Byte) (item : RomItem), header.length = 9 → nextItem bytes = some (item, rest) →
    descriptorItems (header ++ bytes) = item :: descriptorItems (header ++ rest))

/-- R245, R247, R248, R249: what each item of the stream does to the parser. A logical-device tag finalizes the open device
with its defaults and opens the next one with the slot counters at 0 and no dependent-function group entered (D34; its
number log 16); an end-dependent tag leaves the counters alone; every tag without a rule of its own is skipped. -/
def Obligations.ItemsActByTheirTag : Prop :=
  ∀ (p : Params) (ps : ParserState) (payload : List Byte),
    (ps.current = none → ps.act p ⟨false, 2, payload⟩ = .ok { ps with
      current := some { number := BitVec.ofNat 8 ps.finished.length, regs := [], ulMask := 0 }
      m16 := 0
      m32 := 0
      inDf := false }) ∧
    (∀ d, ps.current = some d → ps.act p ⟨false, 2, payload⟩ = .ok { ps with
      finished := ps.finished ++ [resetLdRegs p d]
      current := some { number := BitVec.ofNat 8 (ps.finished.length + 1), regs := [], ulMask := 0 }
      m16 := 0
      m32 := 0
      inDf := false }) ∧
    ps.act p ⟨false, 6, payload⟩ = .ok ps.startDependent ∧
    ps.act p ⟨false, 7, payload⟩ = .ok { ps with inDf := false } ∧
    ps.act p ⟨true, 1, payload⟩ = ps.memoryRange p .bits16 payload ∧
    ps.act p ⟨true, 5, payload⟩ = ps.memoryRange p .bits32 payload ∧
    (∀ tag, tag ≠ 2 → tag ≠ 6 → tag ≠ 7 → ps.act p ⟨false, tag, payload⟩ = .ok ps) ∧
    (∀ tag, tag ≠ 1 → tag ≠ 5 → ps.act p ⟨true, tag, payload⟩ = .ok ps)
end

