-- ==== Sys2Proof/Laws/Bus.lean ====
section
/-! SUPPORT. When an address is one of the block's ports, said in the terms of the statements; how long what follows a
descriptor item is. -/

namespace Sys2Proof.Machine

theorem responder_eq_none_iff {s : State} {a : Port} : s.responder a = none ↔ s.NoneRespondsAt a := by
  simp [State.responder, List.find?_eq_none]

theorem isResponderPort_iff {s : State} {a : Port} : s.isResponderPort a = true ↔ s.SomeRespondsAt a := by
  unfold State.isResponderPort
  rw [Option.isSome_iff_ne_none, ne_eq, responder_eq_none_iff]
  simp

theorem isResponderPort_eq_false_iff {s : State} {a : Port} : s.isResponderPort a = false ↔ s.NoneRespondsAt a := by
  rw [Bool.eq_false_iff, ne_eq, isResponderPort_iff]
  simp

theorem isReadPort_iff {s : State} {a : Port} : s.isReadPort a = true ↔ s.readPort ≠ 0 ∧ a = s.readPort := by
  simp only [State.isReadPort, Bool.and_eq_true, bne_iff_ne, ne_eq, beq_iff_eq]

theorem isBlockPort_iff {s : State} {a : Port} : s.isBlockPort a = true ↔ s.PortAt a := by
  simp only [State.isBlockPort, Bool.or_eq_true, isReadPort_iff, isResponderPort_iff, State.isFixedPort, beq_iff_eq,
    State.PortAt, or_assoc]

/-- Every descriptor item takes at least one byte. -/
theorem nextItem_rest_length_lt {bytes rest : List Byte} {item : RomItem} (h : nextItem bytes = some (item, rest)) :
    rest.length < bytes.length := by
  unfold nextItem at h
  split at h
  · cases h
  · split at h
    · split at h
      · split at h
        · cases h
          simp only [List.length_drop, List.length_cons]
          omega
        · cases h
      · cases h
    · split at h
      · cases h
        simp only [List.length_drop, List.length_cons]
        omega
      · cases h

end Sys2Proof.Machine
end

