-- ==== Sys2Proof/Laws/Memory.lean ====
section
/-! SUPPORT. The laws of a register file: a read after a write, and that every operation keeps the canonical form. -/

namespace Sys2Proof.Machine

@[simp] theorem Memory.read_nil (a : Nat) : Memory.read [] a = Memory.unlisted := rfl

/-- Every listed index lies above `a`: nothing is listed at or below it. -/
theorem Memory.read_below {m : Memory} {a : Nat} (h : ∀ c ∈ m, a < c.1) : Memory.read m a = Memory.unlisted := by
  induction m with
  | nil => rfl
  | cons x m ih =>
    have hx : a < x.1 := h x (by simp)
    have hne : x.1 ≠ a := by omega
    simp only [Memory.read, if_neg hne]
    exact ih fun c hc => h c (by simp [hc])

theorem Memory.read_cons_same {m : Memory} {a : Nat} {v : Byte} (h : ∀ c ∈ m, a < c.1) :
    Memory.read (Memory.cons a v m) a = v := by
  unfold Memory.cons
  split
  · rename_i hv
    rw [Memory.read_below h, hv]
  · simp [Memory.read]

theorem Memory.read_cons_other {m : Memory} {a b : Nat} {v : Byte} (h : b ≠ a) :
    Memory.read (Memory.cons a v m) b = Memory.read m b := by
  unfold Memory.cons
  split
  · rfl
  · simp [Memory.read, Ne.symm h]

theorem Memory.wf_tail {x : Host.Cell} {m : Memory} (h : Memory.wf (x :: m)) : Memory.wf m :=
  ⟨(List.pairwise_cons.mp h.1).2, fun c hc => h.2 c (by simp [hc])⟩

theorem Memory.wf_head {x : Host.Cell} {m : Memory} (h : Memory.wf (x :: m)) : ∀ c ∈ m, x.1 < c.1 :=
  (List.pairwise_cons.mp h.1).1

theorem Memory.wf_cons {m : Memory} {a : Nat} {v : Byte} (h : Memory.wf m) (hb : ∀ c ∈ m, a < c.1) :
    Memory.wf (Memory.cons a v m) := by
  unfold Memory.cons
  split
  · exact h
  · rename_i hv
    refine ⟨List.pairwise_cons.mpr ⟨hb, h.1⟩, ?_⟩
    intro c hc
    rcases List.mem_cons.mp hc with rfl | hc
    · exact hv
    · exact h.2 c hc

/-- A listed cell after a write is the written one or was listed before. -/
theorem Memory.mem_write {m : Memory} {a : Nat} {v : Byte} {c : Host.Cell} (h : c ∈ Memory.write m a v) :
    c = (a, v) ∨ c ∈ m := by
  induction m with
  | nil =>
    unfold Memory.write Memory.cons at h
    split at h <;> simp_all
  | cons x m ih =>
    unfold Memory.write at h
    split at h
    · unfold Memory.cons at h
      split at h <;> simp_all
    · split at h
      · unfold Memory.cons at h
        split at h <;> simp_all
        rcases h with h | h <;> simp [h]
      · rcases List.mem_cons.mp h with rfl | h
        · simp
        · rcases ih h with h | h <;> simp [h]

/-- Writing keeps the canonical form. -/
theorem Memory.wf_write {m : Memory} (a : Nat) (v : Byte) (h : Memory.wf m) : Memory.wf (Memory.write m a v) := by
  induction m with
  | nil => exact Memory.wf_cons h (by simp)
  | cons x m ih =>
    have hh := Memory.wf_head h
    unfold Memory.write
    split
    · rename_i hlt
      refine Memory.wf_cons h ?_
      intro c hc
      rcases List.mem_cons.mp hc with rfl | hc
      · exact hlt
      · exact Nat.lt_trans hlt (hh c hc)
    · split
      · rename_i heq
        refine Memory.wf_cons (Memory.wf_tail h) ?_
        rw [heq]
        exact hh
      · rename_i hlt hne
        refine ⟨List.pairwise_cons.mpr ⟨?_, (ih (Memory.wf_tail h)).1⟩, ?_⟩
        · intro c hc
          rcases Memory.mem_write hc with rfl | hc
          · show x.1 < a
            have h1 : ¬ a < x.1 := hlt
            have h2 : ¬ a = x.1 := hne
            omega
          · exact hh c hc
        · intro c hc
          rcases List.mem_cons.mp hc with rfl | hc
          · exact h.2 _ (by simp)
          · exact (ih (Memory.wf_tail h)).2 c hc

/-- Writing below 256 keeps every index below 256. -/
theorem Memory.within256_write {m : Memory} {a : Nat} (v : Byte) (ha : a < 256) (h : Memory.within256 m) :
    Memory.within256 (Memory.write m a v) := by
  intro c hc
  rcases Memory.mem_write hc with rfl | hc
  · exact ha
  · exact h c hc

/-- A write gives back what was written. -/
theorem Memory.read_write_same {m : Memory} (a : Nat) (v : Byte) (h : Memory.wf m) :
    Memory.read (Memory.write m a v) a = v := by
  induction m with
  | nil => exact Memory.read_cons_same (by simp)
  | cons x m ih =>
    have hh := Memory.wf_head h
    unfold Memory.write
    split
    · rename_i hlt
      refine Memory.read_cons_same ?_
      intro c hc
      rcases List.mem_cons.mp hc with rfl | hc
      · exact hlt
      · exact Nat.lt_trans hlt (hh c hc)
    · split
      · rename_i heq
        refine Memory.read_cons_same ?_
        rw [heq]
        exact hh
      · rename_i hne
        have hne' : x.1 ≠ a := fun e => hne e.symm
        simp only [Memory.read, if_neg hne']
        exact ih (Memory.wf_tail h)

/-- A write leaves every other index alone. -/
theorem Memory.read_write_other {m : Memory} {a b : Nat} (v : Byte) (h : b ≠ a) :
    Memory.read (Memory.write m a v) b = Memory.read m b := by
  induction m with
  | nil => exact Memory.read_cons_other h
  | cons x m ih =>
    unfold Memory.write
    split
    · exact Memory.read_cons_other h
    · split
      · rename_i heq
        have hne : x.1 ≠ b := fun e => h (by rw [← e]; exact heq.symm)
        rw [Memory.read_cons_other h]
        simp [Memory.read, hne]
      · simp only [Memory.read, ih]

/-! ### The same for a logical device's registers -/

theorem LogicalDevice.reg_setReg_same {d : LogicalDevice} (r v : Byte) (h : Memory.wf d.regs) :
    (d.setReg r v).reg r = v := Memory.read_write_same _ _ h

theorem LogicalDevice.reg_setReg_other {d : LogicalDevice} {r q : Byte} (v : Byte) (h : q ≠ r) :
    (d.setReg r v).reg q = d.reg q := Memory.read_write_other _ fun e => h (BitVec.eq_of_toNat_eq e)

@[simp] theorem LogicalDevice.setReg_number (d : LogicalDevice) (r v : Byte) : (d.setReg r v).number = d.number := rfl

@[simp] theorem LogicalDevice.setReg_ulMask (d : LogicalDevice) (r v : Byte) : (d.setReg r v).ulMask = d.ulMask := rfl

@[simp] theorem LogicalDevice.setReg_regs (d : LogicalDevice) (r v : Byte) :
    (d.setReg r v).regs = Memory.write d.regs r.toNat v := rfl

theorem LogicalDevice.wf_setReg {d : LogicalDevice} (r v : Byte) (h : Memory.wf d.regs) :
    Memory.wf (d.setReg r v).regs := Memory.wf_write _ _ h

theorem LogicalDevice.within256_setReg {d : LogicalDevice} (r v : Byte) (h : Memory.within256 d.regs) :
    Memory.within256 (d.setReg r v).regs := Memory.within256_write _ r.isLt h

end Sys2Proof.Machine
end

