-- ==== Sys2Proof/Laws/Projection.lean ====
section
/-! SUPPORT. What the defaults routine (R252) leaves of a device beside its registers' values. -/

namespace Sys2Proof.Machine

@[simp] theorem LogicalDevice.forceLowBit_number (d : LogicalDevice) (r : Byte) : (d.forceLowBit r).number = d.number := rfl

@[simp] theorem LogicalDevice.forceLowBit_ulMask (d : LogicalDevice) (r : Byte) : (d.forceLowBit r).ulMask = d.ulMask := rfl

/-- A property of devices that forcing one low bit keeps is kept by the whole run over the slots. -/
theorem LogicalDevice.forceFlags_induction {P : LogicalDevice → Prop} (h : ∀ d r, P d → P (d.forceLowBit r)) (k : Nat)
    (rs : List Byte) (d : LogicalDevice) (hd : P d) : P (LogicalDevice.forceFlags k rs d) := by
  induction rs generalizing k d with
  | nil => exact hd
  | cons r rs ih =>
    unfold LogicalDevice.forceFlags
    refine ih _ _ ?_
    split
    · exact h d r hd
    · exact hd

@[simp] theorem LogicalDevice.forceFlags_number (k : Nat) (rs : List Byte) (d : LogicalDevice) :
    (LogicalDevice.forceFlags k rs d).number = d.number :=
  LogicalDevice.forceFlags_induction (P := fun e => e.number = d.number) (fun _ _ h => h) k rs d rfl

@[simp] theorem LogicalDevice.forceFlags_ulMask (k : Nat) (rs : List Byte) (d : LogicalDevice) :
    (LogicalDevice.forceFlags k rs d).ulMask = d.ulMask :=
  LogicalDevice.forceFlags_induction (P := fun e => e.ulMask = d.ulMask) (fun _ _ h => h) k rs d rfl

@[simp] theorem resetLdRegs_number (p : Params) (d : LogicalDevice) : (resetLdRegs p d).number = d.number := by
  simp [resetLdRegs]

@[simp] theorem resetLdRegs_ulMask (p : Params) (d : LogicalDevice) : (resetLdRegs p d).ulMask = d.ulMask := by
  simp [resetLdRegs]

/-- The default register file is canonical, whatever the one before it was. -/
theorem resetLdRegs_wf (p : Params) (d : LogicalDevice) : Memory.wf (resetLdRegs p d).regs := by
  refine LogicalDevice.forceFlags_induction (P := fun e => Memory.wf e.regs)
    (fun e r h => LogicalDevice.wf_setReg r _ h) 0 _ _ ?_
  exact LogicalDevice.wf_setReg _ _ (LogicalDevice.wf_setReg _ _ (by simp [Memory.wf]))

theorem resetLdRegs_within256 (p : Params) (d : LogicalDevice) : Memory.within256 (resetLdRegs p d).regs := by
  refine LogicalDevice.forceFlags_induction (P := fun e => Memory.within256 e.regs)
    (fun e r h => LogicalDevice.within256_setReg r _ h) 0 _ _ ?_
  exact LogicalDevice.within256_setReg _ _ (LogicalDevice.within256_setReg _ _ (by simp [Memory.within256]))

/-- The defaults depend on the mask and the parameters alone, not on the registers before (R252). -/
theorem resetLdRegs_regs_irrelevant (p : Params) (d : LogicalDevice) (m : Memory) :
    resetLdRegs p { d with regs := m } = resetLdRegs p d := rfl

end Sys2Proof.Machine
end

