-- ==== Sys2Proof/Laws/State.lean ====
section
/-! SUPPORT. What each update of the state does to each field: one lemma per field per update, so that no proof unfolds
a record update. -/

namespace Sys2Proof.Machine

@[simp] theorem State.clearOutputs_reg (s : State) : (s.clearOutputs).reg = s.reg := rfl
@[simp] theorem State.clearOutputs_keyPos (s : State) : (s.clearOutputs).keyPos = s.keyPos := rfl
@[simp] theorem State.clearOutputs_readPort (s : State) : (s.clearOutputs).readPort = s.readPort := rfl
@[simp] theorem State.clearOutputs_cards (s : State) : (s.clearOutputs).cards = s.cards := rfl
@[simp] theorem State.clearOutputs_isolated (s : State) : (s.clearOutputs).isolated = s.isolated := rfl
@[simp] theorem State.clearOutputs_curLd (s : State) : (s.clearOutputs).curLd = s.curLd := rfl
@[simp] theorem State.clearOutputs_fault (s : State) : (s.clearOutputs).fault = s.fault := rfl
@[simp] theorem State.clearOutputs_alive (s : State) : (s.clearOutputs).alive = s.alive := rfl
@[simp] theorem State.clearOutputs_cfg (s : State) : (s.clearOutputs).cfg = s.cfg := rfl
@[simp] theorem State.clearOutputs_pending (s : State) : (s.clearOutputs).pending = s.pending := rfl
@[simp] theorem State.clearOutputs_events (s : State) : (s.clearOutputs).events = [] := rfl
@[simp] theorem State.clearOutputs_ret (s : State) : (s.clearOutputs).ret = none := rfl
@[simp] theorem State.clearOutputs_asked (s : State) : (s.clearOutputs).asked = none := rfl
@[simp] theorem State.clearOutputs_asks (s : State) : (s.clearOutputs).asks = s.asks := rfl

@[simp] theorem State.withReg_reg (s : State) (v : Byte) : (s.withReg v).reg = v := rfl
@[simp] theorem State.withReg_keyPos (s : State) (v : Byte) : (s.withReg v).keyPos = s.keyPos := rfl
@[simp] theorem State.withReg_readPort (s : State) (v : Byte) : (s.withReg v).readPort = s.readPort := rfl
@[simp] theorem State.withReg_cards (s : State) (v : Byte) : (s.withReg v).cards = s.cards := rfl
@[simp] theorem State.withReg_isolated (s : State) (v : Byte) : (s.withReg v).isolated = s.isolated := rfl
@[simp] theorem State.withReg_curLd (s : State) (v : Byte) : (s.withReg v).curLd = s.curLd := rfl
@[simp] theorem State.withReg_fault (s : State) (v : Byte) : (s.withReg v).fault = s.fault := rfl
@[simp] theorem State.withReg_alive (s : State) (v : Byte) : (s.withReg v).alive = s.alive := rfl
@[simp] theorem State.withReg_cfg (s : State) (v : Byte) : (s.withReg v).cfg = s.cfg := rfl
@[simp] theorem State.withReg_pending (s : State) (v : Byte) : (s.withReg v).pending = s.pending := rfl
@[simp] theorem State.withReg_events (s : State) (v : Byte) : (s.withReg v).events = s.events := rfl
@[simp] theorem State.withReg_ret (s : State) (v : Byte) : (s.withReg v).ret = s.ret := rfl
@[simp] theorem State.withReg_asked (s : State) (v : Byte) : (s.withReg v).asked = s.asked := rfl
@[simp] theorem State.withReg_asks (s : State) (v : Byte) : (s.withReg v).asks = s.asks := rfl

@[simp] theorem State.withKeyPos_reg (s : State) (v : BitVec 5) : (s.withKeyPos v).reg = s.reg := rfl
@[simp] theorem State.withKeyPos_keyPos (s : State) (v : BitVec 5) : (s.withKeyPos v).keyPos = v := rfl
@[simp] theorem State.withKeyPos_readPort (s : State) (v : BitVec 5) : (s.withKeyPos v).readPort = s.readPort := rfl
@[simp] theorem State.withKeyPos_cards (s : State) (v : BitVec 5) : (s.withKeyPos v).cards = s.cards := rfl
@[simp] theorem State.withKeyPos_isolated (s : State) (v : BitVec 5) : (s.withKeyPos v).isolated = s.isolated := rfl
@[simp] theorem State.withKeyPos_curLd (s : State) (v : BitVec 5) : (s.withKeyPos v).curLd = s.curLd := rfl
@[simp] theorem State.withKeyPos_fault (s : State) (v : BitVec 5) : (s.withKeyPos v).fault = s.fault := rfl
@[simp] theorem State.withKeyPos_alive (s : State) (v : BitVec 5) : (s.withKeyPos v).alive = s.alive := rfl
@[simp] theorem State.withKeyPos_cfg (s : State) (v : BitVec 5) : (s.withKeyPos v).cfg = s.cfg := rfl
@[simp] theorem State.withKeyPos_pending (s : State) (v : BitVec 5) : (s.withKeyPos v).pending = s.pending := rfl
@[simp] theorem State.withKeyPos_events (s : State) (v : BitVec 5) : (s.withKeyPos v).events = s.events := rfl
@[simp] theorem State.withKeyPos_ret (s : State) (v : BitVec 5) : (s.withKeyPos v).ret = s.ret := rfl
@[simp] theorem State.withKeyPos_asked (s : State) (v : BitVec 5) : (s.withKeyPos v).asked = s.asked := rfl
@[simp] theorem State.withKeyPos_asks (s : State) (v : BitVec 5) : (s.withKeyPos v).asks = s.asks := rfl

@[simp] theorem State.withReadPort_reg (s : State) (v : Port) : (s.withReadPort v).reg = s.reg := rfl
@[simp] theorem State.withReadPort_keyPos (s : State) (v : Port) : (s.withReadPort v).keyPos = s.keyPos := rfl
@[simp] theorem State.withReadPort_readPort (s : State) (v : Port) : (s.withReadPort v).readPort = v := rfl
@[simp] theorem State.withReadPort_cards (s : State) (v : Port) : (s.withReadPort v).cards = s.cards := rfl
@[simp] theorem State.withReadPort_isolated (s : State) (v : Port) : (s.withReadPort v).isolated = s.isolated := rfl
@[simp] theorem State.withReadPort_curLd (s : State) (v : Port) : (s.withReadPort v).curLd = s.curLd := rfl
@[simp] theorem State.withReadPort_fault (s : State) (v : Port) : (s.withReadPort v).fault = s.fault := rfl
@[simp] theorem State.withReadPort_alive (s : State) (v : Port) : (s.withReadPort v).alive = s.alive := rfl
@[simp] theorem State.withReadPort_cfg (s : State) (v : Port) : (s.withReadPort v).cfg = s.cfg := rfl
@[simp] theorem State.withReadPort_pending (s : State) (v : Port) : (s.withReadPort v).pending = s.pending := rfl
@[simp] theorem State.withReadPort_events (s : State) (v : Port) : (s.withReadPort v).events = s.events := rfl
@[simp] theorem State.withReadPort_ret (s : State) (v : Port) : (s.withReadPort v).ret = s.ret := rfl
@[simp] theorem State.withReadPort_asked (s : State) (v : Port) : (s.withReadPort v).asked = s.asked := rfl
@[simp] theorem State.withReadPort_asks (s : State) (v : Port) : (s.withReadPort v).asks = s.asks := rfl

@[simp] theorem State.withCards_reg (s : State) (cs : List Card) : (s.withCards cs).reg = s.reg := rfl
@[simp] theorem State.withCards_keyPos (s : State) (cs : List Card) : (s.withCards cs).keyPos = s.keyPos := rfl
@[simp] theorem State.withCards_readPort (s : State) (cs : List Card) : (s.withCards cs).readPort = s.readPort := rfl
@[simp] theorem State.withCards_cards (s : State) (cs : List Card) : (s.withCards cs).cards = cs := rfl
@[simp] theorem State.withCards_isolated (s : State) (cs : List Card) : (s.withCards cs).isolated = s.isolated := rfl
@[simp] theorem State.withCards_curLd (s : State) (cs : List Card) : (s.withCards cs).curLd = s.curLd := rfl
@[simp] theorem State.withCards_fault (s : State) (cs : List Card) : (s.withCards cs).fault = s.fault := rfl
@[simp] theorem State.withCards_alive (s : State) (cs : List Card) : (s.withCards cs).alive = s.alive := rfl
@[simp] theorem State.withCards_cfg (s : State) (cs : List Card) : (s.withCards cs).cfg = s.cfg := rfl
@[simp] theorem State.withCards_pending (s : State) (cs : List Card) : (s.withCards cs).pending = s.pending := rfl
@[simp] theorem State.withCards_events (s : State) (cs : List Card) : (s.withCards cs).events = s.events := rfl
@[simp] theorem State.withCards_ret (s : State) (cs : List Card) : (s.withCards cs).ret = s.ret := rfl
@[simp] theorem State.withCards_asked (s : State) (cs : List Card) : (s.withCards cs).asked = s.asked := rfl
@[simp] theorem State.withCards_asks (s : State) (cs : List Card) : (s.withCards cs).asks = s.asks := rfl

@[simp] theorem State.withIsolated_reg (s : State) (v : Option Nat) : (s.withIsolated v).reg = s.reg := rfl
@[simp] theorem State.withIsolated_keyPos (s : State) (v : Option Nat) : (s.withIsolated v).keyPos = s.keyPos := rfl
@[simp] theorem State.withIsolated_readPort (s : State) (v : Option Nat) : (s.withIsolated v).readPort = s.readPort := rfl
@[simp] theorem State.withIsolated_cards (s : State) (v : Option Nat) : (s.withIsolated v).cards = s.cards := rfl
@[simp] theorem State.withIsolated_isolated (s : State) (v : Option Nat) : (s.withIsolated v).isolated = v := rfl
@[simp] theorem State.withIsolated_curLd (s : State) (v : Option Nat) : (s.withIsolated v).curLd = s.curLd := rfl
@[simp] theorem State.withIsolated_fault (s : State) (v : Option Nat) : (s.withIsolated v).fault = s.fault := rfl
@[simp] theorem State.withIsolated_alive (s : State) (v : Option Nat) : (s.withIsolated v).alive = s.alive := rfl
@[simp] theorem State.withIsolated_cfg (s : State) (v : Option Nat) : (s.withIsolated v).cfg = s.cfg := rfl
@[simp] theorem State.withIsolated_pending (s : State) (v : Option Nat) : (s.withIsolated v).pending = s.pending := rfl
@[simp] theorem State.withIsolated_events (s : State) (v : Option Nat) : (s.withIsolated v).events = s.events := rfl
@[simp] theorem State.withIsolated_ret (s : State) (v : Option Nat) : (s.withIsolated v).ret = s.ret := rfl
@[simp] theorem State.withIsolated_asked (s : State) (v : Option Nat) : (s.withIsolated v).asked = s.asked := rfl
@[simp] theorem State.withIsolated_asks (s : State) (v : Option Nat) : (s.withIsolated v).asks = s.asks := rfl

@[simp] theorem State.withCurLd_reg (s : State) (v : Option DeviceRef) : (s.withCurLd v).reg = s.reg := rfl
@[simp] theorem State.withCurLd_keyPos (s : State) (v : Option DeviceRef) : (s.withCurLd v).keyPos = s.keyPos := rfl
@[simp] theorem State.withCurLd_readPort (s : State) (v : Option DeviceRef) : (s.withCurLd v).readPort = s.readPort := rfl
@[simp] theorem State.withCurLd_cards (s : State) (v : Option DeviceRef) : (s.withCurLd v).cards = s.cards := rfl
@[simp] theorem State.withCurLd_isolated (s : State) (v : Option DeviceRef) : (s.withCurLd v).isolated = s.isolated := rfl
@[simp] theorem State.withCurLd_curLd (s : State) (v : Option DeviceRef) : (s.withCurLd v).curLd = v := rfl
@[simp] theorem State.withCurLd_fault (s : State) (v : Option DeviceRef) : (s.withCurLd v).fault = s.fault := rfl
@[simp] theorem State.withCurLd_alive (s : State) (v : Option DeviceRef) : (s.withCurLd v).alive = s.alive := rfl
@[simp] theorem State.withCurLd_cfg (s : State) (v : Option DeviceRef) : (s.withCurLd v).cfg = s.cfg := rfl
@[simp] theorem State.withCurLd_pending (s : State) (v : Option DeviceRef) : (s.withCurLd v).pending = s.pending := rfl
@[simp] theorem State.withCurLd_events (s : State) (v : Option DeviceRef) : (s.withCurLd v).events = s.events := rfl
@[simp] theorem State.withCurLd_ret (s : State) (v : Option DeviceRef) : (s.withCurLd v).ret = s.ret := rfl
@[simp] theorem State.withCurLd_asked (s : State) (v : Option DeviceRef) : (s.withCurLd v).asked = s.asked := rfl
@[simp] theorem State.withCurLd_asks (s : State) (v : Option DeviceRef) : (s.withCurLd v).asks = s.asks := rfl

@[simp] theorem State.withPending_reg (s : State) (rs : List Request) : (s.withPending rs).reg = s.reg := rfl
@[simp] theorem State.withPending_keyPos (s : State) (rs : List Request) : (s.withPending rs).keyPos = s.keyPos := rfl
@[simp] theorem State.withPending_readPort (s : State) (rs : List Request) : (s.withPending rs).readPort = s.readPort := rfl
@[simp] theorem State.withPending_cards (s : State) (rs : List Request) : (s.withPending rs).cards = s.cards := rfl
@[simp] theorem State.withPending_isolated (s : State) (rs : List Request) : (s.withPending rs).isolated = s.isolated := rfl
@[simp] theorem State.withPending_curLd (s : State) (rs : List Request) : (s.withPending rs).curLd = s.curLd := rfl
@[simp] theorem State.withPending_fault (s : State) (rs : List Request) : (s.withPending rs).fault = s.fault := rfl
@[simp] theorem State.withPending_alive (s : State) (rs : List Request) : (s.withPending rs).alive = s.alive := rfl
@[simp] theorem State.withPending_cfg (s : State) (rs : List Request) : (s.withPending rs).cfg = s.cfg := rfl
@[simp] theorem State.withPending_pending (s : State) (rs : List Request) : (s.withPending rs).pending = rs := rfl
@[simp] theorem State.withPending_events (s : State) (rs : List Request) : (s.withPending rs).events = s.events := rfl
@[simp] theorem State.withPending_ret (s : State) (rs : List Request) : (s.withPending rs).ret = s.ret := rfl
@[simp] theorem State.withPending_asked (s : State) (rs : List Request) : (s.withPending rs).asked = s.asked := rfl
@[simp] theorem State.withPending_asks (s : State) (rs : List Request) : (s.withPending rs).asks = s.asks := rfl

@[simp] theorem State.emit_reg (s : State) (es : List Event) : (s.emit es).reg = s.reg := rfl
@[simp] theorem State.emit_keyPos (s : State) (es : List Event) : (s.emit es).keyPos = s.keyPos := rfl
@[simp] theorem State.emit_readPort (s : State) (es : List Event) : (s.emit es).readPort = s.readPort := rfl
@[simp] theorem State.emit_cards (s : State) (es : List Event) : (s.emit es).cards = s.cards := rfl
@[simp] theorem State.emit_isolated (s : State) (es : List Event) : (s.emit es).isolated = s.isolated := rfl
@[simp] theorem State.emit_curLd (s : State) (es : List Event) : (s.emit es).curLd = s.curLd := rfl
@[simp] theorem State.emit_fault (s : State) (es : List Event) : (s.emit es).fault = s.fault := rfl
@[simp] theorem State.emit_alive (s : State) (es : List Event) : (s.emit es).alive = s.alive := rfl
@[simp] theorem State.emit_cfg (s : State) (es : List Event) : (s.emit es).cfg = s.cfg := rfl
@[simp] theorem State.emit_pending (s : State) (es : List Event) : (s.emit es).pending = s.pending := rfl
@[simp] theorem State.emit_events (s : State) (es : List Event) : (s.emit es).events = s.events ++ es := rfl
@[simp] theorem State.emit_ret (s : State) (es : List Event) : (s.emit es).ret = s.ret := rfl
@[simp] theorem State.emit_asked (s : State) (es : List Event) : (s.emit es).asked = s.asked := rfl
@[simp] theorem State.emit_asks (s : State) (es : List Event) : (s.emit es).asks = s.asks := rfl

@[simp] theorem State.reply_reg (s : State) (r : Reply) : (s.reply r).reg = s.reg := rfl
@[simp] theorem State.reply_keyPos (s : State) (r : Reply) : (s.reply r).keyPos = s.keyPos := rfl
@[simp] theorem State.reply_readPort (s : State) (r : Reply) : (s.reply r).readPort = s.readPort := rfl
@[simp] theorem State.reply_cards (s : State) (r : Reply) : (s.reply r).cards = s.cards := rfl
@[simp] theorem State.reply_isolated (s : State) (r : Reply) : (s.reply r).isolated = s.isolated := rfl
@[simp] theorem State.reply_curLd (s : State) (r : Reply) : (s.reply r).curLd = s.curLd := rfl
@[simp] theorem State.reply_fault (s : State) (r : Reply) : (s.reply r).fault = s.fault := rfl
@[simp] theorem State.reply_alive (s : State) (r : Reply) : (s.reply r).alive = s.alive := rfl
@[simp] theorem State.reply_cfg (s : State) (r : Reply) : (s.reply r).cfg = s.cfg := rfl
@[simp] theorem State.reply_pending (s : State) (r : Reply) : (s.reply r).pending = s.pending := rfl
@[simp] theorem State.reply_events (s : State) (r : Reply) : (s.reply r).events = s.events := rfl
@[simp] theorem State.reply_ret (s : State) (r : Reply) : (s.reply r).ret = some r := rfl
@[simp] theorem State.reply_asked (s : State) (r : Reply) : (s.reply r).asked = s.asked := rfl
@[simp] theorem State.reply_asks (s : State) (r : Reply) : (s.reply r).asks = s.asks := rfl

@[simp] theorem State.ask_reg (s : State) (q : VendorAsk) : (s.ask q).reg = s.reg := rfl
@[simp] theorem State.ask_keyPos (s : State) (q : VendorAsk) : (s.ask q).keyPos = s.keyPos := rfl
@[simp] theorem State.ask_readPort (s : State) (q : VendorAsk) : (s.ask q).readPort = s.readPort := rfl
@[simp] theorem State.ask_cards (s : State) (q : VendorAsk) : (s.ask q).cards = s.cards := rfl
@[simp] theorem State.ask_isolated (s : State) (q : VendorAsk) : (s.ask q).isolated = s.isolated := rfl
@[simp] theorem State.ask_curLd (s : State) (q : VendorAsk) : (s.ask q).curLd = s.curLd := rfl
@[simp] theorem State.ask_fault (s : State) (q : VendorAsk) : (s.ask q).fault = s.fault := rfl
@[simp] theorem State.ask_alive (s : State) (q : VendorAsk) : (s.ask q).alive = s.alive := rfl
@[simp] theorem State.ask_cfg (s : State) (q : VendorAsk) : (s.ask q).cfg = s.cfg := rfl
@[simp] theorem State.ask_pending (s : State) (q : VendorAsk) : (s.ask q).pending = s.pending := rfl
@[simp] theorem State.ask_events (s : State) (q : VendorAsk) : (s.ask q).events = s.events := rfl
@[simp] theorem State.ask_ret (s : State) (q : VendorAsk) : (s.ask q).ret = s.ret := rfl
@[simp] theorem State.ask_asked (s : State) (q : VendorAsk) : (s.ask q).asked = some q := rfl
@[simp] theorem State.ask_asks (s : State) (q : VendorAsk) : (s.ask q).asks = s.asks + 1 := rfl

@[simp] theorem State.setCard_reg (s : State) (i : Nat) (c : Card) : (s.setCard i c).reg = s.reg := rfl
@[simp] theorem State.setCard_keyPos (s : State) (i : Nat) (c : Card) : (s.setCard i c).keyPos = s.keyPos := rfl
@[simp] theorem State.setCard_readPort (s : State) (i : Nat) (c : Card) : (s.setCard i c).readPort = s.readPort := rfl
@[simp] theorem State.setCard_cards (s : State) (i : Nat) (c : Card) : (s.setCard i c).cards = s.cards.set i c := rfl
@[simp] theorem State.setCard_isolated (s : State) (i : Nat) (c : Card) : (s.setCard i c).isolated = s.isolated := rfl
@[simp] theorem State.setCard_curLd (s : State) (i : Nat) (c : Card) : (s.setCard i c).curLd = s.curLd := rfl
@[simp] theorem State.setCard_fault (s : State) (i : Nat) (c : Card) : (s.setCard i c).fault = s.fault := rfl
@[simp] theorem State.setCard_alive (s : State) (i : Nat) (c : Card) : (s.setCard i c).alive = s.alive := rfl
@[simp] theorem State.setCard_cfg (s : State) (i : Nat) (c : Card) : (s.setCard i c).cfg = s.cfg := rfl
@[simp] theorem State.setCard_pending (s : State) (i : Nat) (c : Card) : (s.setCard i c).pending = s.pending := rfl
@[simp] theorem State.setCard_events (s : State) (i : Nat) (c : Card) : (s.setCard i c).events = s.events := rfl
@[simp] theorem State.setCard_ret (s : State) (i : Nat) (c : Card) : (s.setCard i c).ret = s.ret := rfl
@[simp] theorem State.setCard_asked (s : State) (i : Nat) (c : Card) : (s.setCard i c).asked = s.asked := rfl
@[simp] theorem State.setCard_asks (s : State) (i : Nat) (c : Card) : (s.setCard i c).asks = s.asks := rfl

@[simp] theorem State.setDevice_reg (s : State) (ref : DeviceRef) (c : Card) (d : LogicalDevice) : (s.setDevice ref c d).reg = s.reg := rfl
@[simp] theorem State.setDevice_keyPos (s : State) (ref : DeviceRef) (c : Card) (d : LogicalDevice) : (s.setDevice ref c d).keyPos = s.keyPos := rfl
@[simp] theorem State.setDevice_readPort (s : State) (ref : DeviceRef) (c : Card) (d : LogicalDevice) : (s.setDevice ref c d).readPort = s.readPort := rfl
@[simp] theorem State.setDevice_cards (s : State) (ref : DeviceRef) (c : Card) (d : LogicalDevice) : (s.setDevice ref c d).cards = s.cards.set ref.card (c.setDevice ref.device d) := rfl
@[simp] theorem State.setDevice_isolated (s : State) (ref : DeviceRef) (c : Card) (d : LogicalDevice) : (s.setDevice ref c d).isolated = s.isolated := rfl
@[simp] theorem State.setDevice_curLd (s : State) (ref : DeviceRef) (c : Card) (d : LogicalDevice) : (s.setDevice ref c d).curLd = s.curLd := rfl
@[simp] theorem State.setDevice_fault (s : State) (ref : DeviceRef) (c : Card) (d : LogicalDevice) : (s.setDevice ref c d).fault = s.fault := rfl
@[simp] theorem State.setDevice_alive (s : State) (ref : DeviceRef) (c : Card) (d : LogicalDevice) : (s.setDevice ref c d).alive = s.alive := rfl
@[simp] theorem State.setDevice_cfg (s : State) (ref : DeviceRef) (c : Card) (d : LogicalDevice) : (s.setDevice ref c d).cfg = s.cfg := rfl
@[simp] theorem State.setDevice_pending (s : State) (ref : DeviceRef) (c : Card) (d : LogicalDevice) : (s.setDevice ref c d).pending = s.pending := rfl
@[simp] theorem State.setDevice_events (s : State) (ref : DeviceRef) (c : Card) (d : LogicalDevice) : (s.setDevice ref c d).events = s.events := rfl
@[simp] theorem State.setDevice_ret (s : State) (ref : DeviceRef) (c : Card) (d : LogicalDevice) : (s.setDevice ref c d).ret = s.ret := rfl
@[simp] theorem State.setDevice_asked (s : State) (ref : DeviceRef) (c : Card) (d : LogicalDevice) : (s.setDevice ref c d).asked = s.asked := rfl
@[simp] theorem State.setDevice_asks (s : State) (ref : DeviceRef) (c : Card) (d : LogicalDevice) : (s.setDevice ref c d).asks = s.asks := rfl

@[simp] theorem State.initialised_reg (s : State) : (s.initialised).reg = 0x00 := rfl
@[simp] theorem State.initialised_keyPos (s : State) : (s.initialised).keyPos = 0 := rfl
@[simp] theorem State.initialised_readPort (s : State) : (s.initialised).readPort = 0 := rfl
@[simp] theorem State.initialised_cards (s : State) : (s.initialised).cards = [] := rfl
@[simp] theorem State.initialised_isolated (s : State) : (s.initialised).isolated = none := rfl
@[simp] theorem State.initialised_curLd (s : State) : (s.initialised).curLd = none := rfl
@[simp] theorem State.initialised_fault (s : State) : (s.initialised).fault = none := rfl
@[simp] theorem State.initialised_alive (s : State) : (s.initialised).alive = true := rfl
@[simp] theorem State.initialised_cfg (s : State) : (s.initialised).cfg = s.cfg := rfl
@[simp] theorem State.initialised_pending (s : State) : (s.initialised).pending = s.pending := rfl
@[simp] theorem State.initialised_events (s : State) : (s.initialised).events = [] := rfl
@[simp] theorem State.initialised_ret (s : State) : (s.initialised).ret = none := rfl
@[simp] theorem State.initialised_asked (s : State) : (s.initialised).asked = none := rfl
@[simp] theorem State.initialised_asks (s : State) : (s.initialised).asks = s.asks := rfl

@[simp] theorem State.destroyed_reg (s : State) : (s.destroyed).reg = 0x00 := rfl
@[simp] theorem State.destroyed_keyPos (s : State) : (s.destroyed).keyPos = 0 := rfl
@[simp] theorem State.destroyed_readPort (s : State) : (s.destroyed).readPort = 0 := rfl
@[simp] theorem State.destroyed_cards (s : State) : (s.destroyed).cards = [] := rfl
@[simp] theorem State.destroyed_isolated (s : State) : (s.destroyed).isolated = none := rfl
@[simp] theorem State.destroyed_curLd (s : State) : (s.destroyed).curLd = none := rfl
@[simp] theorem State.destroyed_fault (s : State) : (s.destroyed).fault = none := rfl
@[simp] theorem State.destroyed_alive (s : State) : (s.destroyed).alive = false := rfl
@[simp] theorem State.destroyed_cfg (s : State) : (s.destroyed).cfg = s.cfg := rfl
@[simp] theorem State.destroyed_pending (s : State) : (s.destroyed).pending = s.pending := rfl
@[simp] theorem State.destroyed_events (s : State) : (s.destroyed).events = [] := rfl
@[simp] theorem State.destroyed_ret (s : State) : (s.destroyed).ret = none := rfl
@[simp] theorem State.destroyed_asked (s : State) : (s.destroyed).asked = none := rfl
@[simp] theorem State.destroyed_asks (s : State) : (s.destroyed).asks = s.asks := rfl

end Sys2Proof.Machine
end

