-- ==== Sys2Proof/Laws/Ops.lean ====
section
/-! SUPPORT. For each shared operation, once, everything it can do. The provers cite these instead of unfolding. -/

namespace Sys2Proof.Machine

/-! ### Guards -/

/-- On a live controller the body runs, its outputs empty. -/
theorem operate_live {s : State} (ha : s.alive = true) (hf : s.fault = none) (body : State → Result) :
    operate s body = body s.clearOutputs := by
  simp [operate, ha, hf]

/-- An operation that answers a next state ran its body on a live controller. -/
theorem operate_next {s t : State} {body : State → Result} (h : operate s body = .next t) :
    s.alive = true ∧ s.fault = none ∧ body s.clearOutputs = .next t := by
  unfold operate at h
  cases ha : s.alive <;> simp only [ha] at h
  · simp at h
  · cases hf : s.fault <;> simp only [hf] at h
    · exact ⟨rfl, rfl, by simpa using h⟩
    · simp at h

/-- After a fatal error an operation stops (R286). -/
theorem operate_faulted {s : State} {k : FatalKind} (ha : s.alive = true) (hf : s.fault = some k)
    (body : State → Result) : operate s body = .fault (.sessionOver k) := by
  simp [operate, ha, hf]

/-- Without a controller an operation stops (R300). -/
theorem operate_dead {s : State} (ha : s.alive = false) (body : State → Result) :
    operate s body = .fault .noController := by
  simp [operate, ha]

/-- A mapped DATA read of a live controller runs its body. -/
theorem dataRead_live {s : State} (ha : s.alive = true) (hf : s.fault = none) (hp : s.readPort ≠ 0)
    (body : State → Result) : dataRead s body = body s.clearOutputs := by
  unfold dataRead
  rw [operate_live ha hf]
  exact if_neg hp

/-- An unmapped DATA read is not answered and changes nothing. -/
theorem dataRead_unmapped {s : State} (ha : s.alive = true) (hf : s.fault = none) (hp : s.readPort = 0)
    (body : State → Result) : dataRead s body = .next s.clearOutputs := by
  unfold dataRead
  rw [operate_live ha hf]
  exact if_pos hp

/-- A DATA read that answers a next state was not answered at all, or ran its body. -/
theorem dataRead_next {s t : State} {body : State → Result} (h : dataRead s body = .next t) :
    s.alive = true ∧ s.fault = none ∧
      ((s.readPort = 0 ∧ t = s.clearOutputs) ∨ (s.readPort ≠ 0 ∧ body s.clearOutputs = .next t)) := by
  obtain ⟨ha, hf, h⟩ := operate_next h
  refine ⟨ha, hf, ?_⟩
  by_cases hp : s.readPort = 0
  · simp only [State.clearOutputs_readPort, hp, if_true, dropped, Host.Outcome.next.injEq] at h
    exact .inl ⟨hp, h.symm⟩
  · simp only [State.clearOutputs_readPort, hp, if_false] at h
    exact .inr ⟨hp, h⟩

@[simp] theorem answerByte_eq (s : State) (b : Byte) : answerByte s b = .next (s.reply (.byte b)) := rfl

@[simp] theorem dropped_eq (s : State) : dropped s = .next s := rfl

/-- Taking a fatal error records its kind, emits one event and leaves the rest (R284). -/
@[simp] theorem raiseFatal_eq (s : State) (k : FatalKind) (info : Byte) :
    raiseFatal s k info = .next { s with fault := some k, events := s.events ++ [.fatal k info] } := rfl

/-- An ignored write of a live controller changes nothing but the outputs. -/
theorem ignoredWrite_live {s : State} (ha : s.alive = true) (hf : s.fault = none) :
    ignoredWrite s = .next s.clearOutputs := operate_live ha hf _

/-- A constant read of a live, mapped controller answers the byte. -/
theorem constantRead_live {s : State} (ha : s.alive = true) (hf : s.fault = none) (hp : s.readPort ≠ 0) (b : Byte) :
    constantRead s b = .next (s.clearOutputs.reply (.byte b)) := dataRead_live ha hf hp _

/-! ### Scans -/

/-- What a scan finds is the first card in the state, at its index; none means no card is in it. -/
theorem firstCardFrom_some {st : CardState} {n i : Nat} {cs : List Card} {c : Card}
    (h : firstCardFrom st n cs = some (i, c)) :
    n ≤ i ∧ cs[i - n]? = some c ∧ c.state = st ∧ ∀ e ∈ cs.take (i - n), e.state ≠ st := by
  induction cs generalizing n with
  | nil => simp [firstCardFrom] at h
  | cons e cs ih =>
    unfold firstCardFrom at h
    split at h
    · rename_i hst
      simp only [Option.some.injEq, Prod.mk.injEq] at h
      obtain ⟨rfl, rfl⟩ := h
      simp [hst]
    · rename_i hst
      obtain ⟨hle, hget, hc, hbefore⟩ := ih h
      have hsub : i - n = (i - (n + 1)) + 1 := by omega
      refine ⟨by omega, by rw [hsub]; simpa using hget, hc, ?_⟩
      rw [hsub]
      intro x hx
      rcases List.mem_cons.mp (by simpa using hx) with rfl | hx
      · exact hst
      · exact hbefore x hx

theorem firstCardFrom_none {st : CardState} {n : Nat} {cs : List Card} :
    firstCardFrom st n cs = none ↔ ∀ c ∈ cs, c.state ≠ st := by
  induction cs generalizing n with
  | nil => simp [firstCardFrom]
  | cons e cs ih =>
    unfold firstCardFrom
    by_cases hst : e.state = st <;> simp [hst, ih]

/-- The scan from the head finds the first card in the state (R12). -/
theorem State.firstCardIn_some {s : State} {st : CardState} {i : Nat} {c : Card}
    (h : s.firstCardIn st = some (i, c)) :
    s.cards[i]? = some c ∧ c.state = st ∧ ∀ e ∈ s.cards.take i, e.state ≠ st := by
  obtain ⟨_, hget, hc, hbefore⟩ := firstCardFrom_some h
  exact ⟨by simpa using hget, hc, by simpa using hbefore⟩

theorem State.firstCardIn_none {s : State} {st : CardState} :
    s.firstCardIn st = none ↔ ∀ c ∈ s.cards, c.state ≠ st := firstCardFrom_none

/-- A card at an index, in the state, with no earlier one in it, is what the scan finds. -/
theorem firstCardFrom_of_get {st : CardState} {cs : List Card} {i n : Nat} {c : Card}
    (hget : cs[i]? = some c) (hc : c.state = st) (hbefore : ∀ e ∈ cs.take i, e.state ≠ st) :
    firstCardFrom st n cs = some (n + i, c) := by
  induction cs generalizing i n with
  | nil => simp at hget
  | cons e cs ih =>
    unfold firstCardFrom
    cases i with
    | zero =>
      simp only [List.getElem?_cons_zero, Option.some.injEq] at hget
      subst hget
      simp [hc]
    | succ i =>
      have he : e.state ≠ st := hbefore e (by simp)
      rw [if_neg he, ih (by simpa using hget) fun x hx => hbefore x (by simp [hx])]
      simp only [Option.some.injEq, Prod.mk.injEq, and_true]
      omega

theorem State.firstCardIn_of_get {s : State} {st : CardState} {i : Nat} {c : Card}
    (hget : s.cards[i]? = some c) (hc : c.state = st) (hbefore : ∀ e ∈ s.cards.take i, e.state ≠ st) :
    s.firstCardIn st = some (i, c) := by
  have h := firstCardFrom_of_get (n := 0) hget hc hbefore
  simpa [State.firstCardIn] using h

/-- The scan reads the chain alone. -/
@[simp] theorem State.firstCardIn_clearOutputs (s : State) (st : CardState) :
    s.clearOutputs.firstCardIn st = s.firstCardIn st := rfl

@[simp] theorem State.configCard_clearOutputs (s : State) : s.clearOutputs.configCard = s.configCard := rfl

@[simp] theorem State.currentDevice_clearOutputs (s : State) : s.clearOutputs.currentDevice = s.currentDevice := rfl

@[simp] theorem State.isolatedCard_clearOutputs (s : State) : s.clearOutputs.isolatedCard = s.isolatedCard := rfl

@[simp] theorem State.locked_clearOutputs (s : State) : s.clearOutputs.locked = s.locked := rfl

/-- What `isolated` refers to, once. -/
theorem State.isolatedCard_some {s : State} {i : Nat} {c : Card} :
    s.isolatedCard = some (i, c) ↔ s.isolated = some i ∧ s.cards[i]? = some c := by
  unfold State.isolatedCard
  cases h : s.isolated with
  | none => simp
  | some j =>
    cases hj : s.cards[j]? with
    | none => simp only [hj, Option.map_none, Option.some.injEq]; grind
    | some e => simp only [hj, Option.map_some, Option.some.injEq, Prod.mk.injEq]; grind

/-- What `cur_ld` refers to, once. -/
theorem State.currentDevice_some {s : State} {ref : DeviceRef} {c : Card} {d : LogicalDevice} :
    s.currentDevice = some (ref, c, d) ↔
      s.curLd = some ref ∧ s.cards[ref.card]? = some c ∧ c.lds[ref.device]? = some d := by
  unfold State.currentDevice
  cases h : s.curLd with
  | none => simp
  | some r =>
    cases hc : s.cards[r.card]? with
    | none => simp only [hc, Option.some.injEq]; grind
    | some e =>
      cases hd : e.lds[r.device]? with
      | none => simp only [hc, hd, Option.map_none, Option.some.injEq]; grind
      | some f => simp only [hc, hd, Option.map_some, Option.some.injEq, Prod.mk.injEq]; grind

theorem State.currentDevice_none_of_unselected {s : State} (h : s.curLd = none) : s.currentDevice = none := by
  simp [State.currentDevice, h]

/-! ### Shapes shared by several operations -/

/-- A device-register read of a live, mapped controller: the register's byte, or the sentinel with nothing selected. -/
theorem readDeviceReg_live {s : State} (ha : s.alive = true) (hf : s.fault = none) (hp : s.readPort ≠ 0) (r : Byte) :
    readDeviceReg s r =
      .next (s.clearOutputs.reply (.byte
        (match s.currentDevice with
         | none => readSentinel
         | some (_, _, d) => d.reg r))) := by
  unfold readDeviceReg
  rw [dataRead_live ha hf hp]
  simp only [State.currentDevice_clearOutputs]
  cases s.currentDevice <;> rfl

/-- A device-register write that answers a next state dropped the byte or stored it in the selected device. -/
theorem writeDeviceReg_next {s t : State} {r : Byte} {f : Byte → Byte} {fires : Bool}
    (h : writeDeviceReg s r f fires = .next t) :
    s.alive = true ∧ s.fault = none ∧
      ((s.currentDevice = none ∧ t = s.clearOutputs) ∨
        ∃ ref c d, s.currentDevice = some (ref, c, d) ∧
          t = (s.clearOutputs.setDevice ref c (d.setReg r (f (d.reg r)))).emit
            (if fires then configChangedEvents ref.card c (d.setReg r (f (d.reg r))) else [])) := by
  obtain ⟨ha, hf, h⟩ := operate_next h
  refine ⟨ha, hf, ?_⟩
  simp only [State.currentDevice_clearOutputs] at h
  split at h
  · rename_i hd
    exact .inl ⟨hd, by simpa using h.symm⟩
  · rename_i ref c d hd
    exact .inr ⟨ref, c, d, hd, by simpa using h.symm⟩

/-- A vendor read answers a fresh free byte after asking, or the sentinel without a hook. -/
theorem vendorRead_eq (s : State) (i : Nat) (c : Card) (ldn reg : Byte) :
    vendorRead s i c ldn reg =
      .next (if c.hooks.vendorRead then (s.ask ⟨i, ldn, reg⟩).reply (.byte (Config.vendorByte s.asks))
        else s.reply (.byte readSentinel)) := by
  unfold vendorRead
  split <;> rfl

@[simp] theorem vendorWrite_eq (s : State) (i : Nat) (c : Card) (ldn reg v : Byte) :
    vendorWrite s i c ldn reg v = .next (s.emit (vendorWriteEvents i c ldn reg v)) := rfl

/-! ### Replacing a card or a device -/

theorem State.getElem?_setCard (s : State) (i j : Nat) (c : Card) :
    (s.setCard i c).cards[j]? = if i = j then (if i < s.cards.length then some c else none) else s.cards[j]? := by
  simp only [State.setCard_cards, List.getElem?_set]

@[simp] theorem Card.setDevice_lds (c : Card) (k : Nat) (d : LogicalDevice) : (c.setDevice k d).lds = c.lds.set k d := rfl
@[simp] theorem Card.setDevice_state (c : Card) (k : Nat) (d : LogicalDevice) : (c.setDevice k d).state = c.state := rfl
@[simp] theorem Card.setDevice_csn (c : Card) (k : Nat) (d : LogicalDevice) : (c.setDevice k d).csn = c.csn := rfl
@[simp] theorem Card.setDevice_idChecksum (c : Card) (k : Nat) (d : LogicalDevice) :
    (c.setDevice k d).idChecksum = c.idChecksum := rfl
@[simp] theorem Card.setDevice_serialPos (c : Card) (k : Nat) (d : LogicalDevice) :
    (c.setDevice k d).serialPos = c.serialPos := rfl
@[simp] theorem Card.setDevice_serialPair (c : Card) (k : Nat) (d : LogicalDevice) :
    (c.setDevice k d).serialPair = c.serialPair := rfl
@[simp] theorem Card.setDevice_serialLatch (c : Card) (k : Nat) (d : LogicalDevice) :
    (c.setDevice k d).serialLatch = c.serialLatch := rfl
@[simp] theorem Card.setDevice_rom (c : Card) (k : Nat) (d : LogicalDevice) : (c.setDevice k d).rom = c.rom := rfl
@[simp] theorem Card.setDevice_romPos (c : Card) (k : Nat) (d : LogicalDevice) : (c.setDevice k d).romPos = c.romPos := rfl
@[simp] theorem Card.setDevice_hooks (c : Card) (k : Nat) (d : LogicalDevice) : (c.setDevice k d).hooks = c.hooks := rfl

end Sys2Proof.Machine
end

