-- ==== Sys2Proof/Laws/PerInstr.lean ====
section
/-! SUPPORT. The family SelectorMatches: the record the encoder writes for a well-formed operation has a selector that
one of the table's rows of its mnemonic matches (R96). -/

namespace Sys2Proof.Laws.SelectorMatches

/-- The selector at the head of a record (R96). -/
def selectorOf : List Byte → Selector
  | reg :: cls :: _ => cls.setWidth 3 ++ reg
  | _ => 0

/-- Some row of this mnemonic matches the selector. -/
def rowMatches (mnemonic : String) (sel : Selector) : Bool :=
  selectorRows.any fun row => row.mnemonic == mnemonic && row.applies sel

/-- A well-formed operation's record is matched by a row of its own mnemonic. -/
def Statement (i : Instr) : Prop := i.wellFormed = true → rowMatches (mnemonicOf i) (selectorOf (encode i)) = true

theorem block_dw_unrecognized : ∀ reg : Byte, isUnrecognizedIndex reg = true →
    rowMatches "DW.UNRECOGNIZED" (selectorOf (record 1 reg [])) = true := by decide +kernel

theorem block_dr_unrecognized : ∀ reg : Byte, isUnrecognizedIndex reg = true →
    rowMatches "DR.UNRECOGNIZED" (selectorOf (record 2 reg [])) = true := by decide +kernel

theorem block_dw_vendor_card : ∀ reg : Byte, isVendorCardIndex reg = true →
    rowMatches "DW.VENDOR_CARD" (selectorOf (record 1 reg [])) = true := by decide +kernel

theorem block_dr_vendor_card : ∀ reg : Byte, isVendorCardIndex reg = true →
    rowMatches "DR.VENDOR_CARD" (selectorOf (record 2 reg [])) = true := by decide +kernel

theorem block_dw_generic : ∀ reg : Byte, isGenericIndex reg = true →
    rowMatches "DW.GENERIC" (selectorOf (record 1 reg [])) = true := by decide +kernel

theorem block_dr_generic : ∀ reg : Byte, isGenericIndex reg = true →
    rowMatches "DR.GENERIC" (selectorOf (record 2 reg [])) = true := by decide +kernel

theorem block_dw_vendor_ld : ∀ reg : Byte, isVendorLdIndex reg = true →
    rowMatches "DW.VENDOR_LD" (selectorOf (record 1 reg [])) = true := by decide +kernel

theorem block_dr_vendor_ld : ∀ reg : Byte, isVendorLdIndex reg = true →
    rowMatches "DR.VENDOR_LD" (selectorOf (record 2 reg [])) = true := by decide +kernel

theorem aw (v : Byte) : Statement (.aw v) := fun _ =>
  show rowMatches "AW" (selectorOf (record 0 0 [])) = true by decide

theorem dwSetRdPort (v : Byte) : Statement (.dwSetRdPort v) := fun _ =>
  show rowMatches "DW.SET_RD_PORT" (selectorOf (record 1 0x00 [])) = true by decide

theorem dwSerialIsolation (v : Byte) : Statement (.dwSerialIsolation v) := fun _ =>
  show rowMatches "DW.SERIAL_ISOLATION" (selectorOf (record 1 0x01 [])) = true by decide

theorem dwConfigControl (v : Byte) : Statement (.dwConfigControl v) := fun _ =>
  show rowMatches "DW.CONFIG_CONTROL" (selectorOf (record 1 0x02 [])) = true by decide

theorem dwWake (v : Byte) : Statement (.dwWake v) := fun _ =>
  show rowMatches "DW.WAKE" (selectorOf (record 1 0x03 [])) = true by decide

theorem dwResourceData (v : Byte) : Statement (.dwResourceData v) := fun _ =>
  show rowMatches "DW.RESOURCE_DATA" (selectorOf (record 1 0x04 [])) = true by decide

theorem dwStatus (v : Byte) : Statement (.dwStatus v) := fun _ =>
  show rowMatches "DW.STATUS" (selectorOf (record 1 0x05 [])) = true by decide

theorem dwCsn (v : Byte) : Statement (.dwCsn v) := fun _ =>
  show rowMatches "DW.CSN" (selectorOf (record 1 0x06 [])) = true by decide

theorem dwLdn (v : Byte) : Statement (.dwLdn v) := fun _ =>
  show rowMatches "DW.LDN" (selectorOf (record 1 0x07 [])) = true by decide

theorem dwUnrecognized (reg : Byte) (v : Byte) : Statement (.dwUnrecognized reg v) := block_dw_unrecognized reg

theorem dwVendorCard (reg : Byte) (v : Byte) : Statement (.dwVendorCard reg v) := block_dw_vendor_card reg

theorem dwActivate (v : Byte) : Statement (.dwActivate v) := fun _ =>
  show rowMatches "DW.ACTIVATE" (selectorOf (record 1 0x30 [])) = true by decide

theorem dwIoRangeCheck (v : Byte) : Statement (.dwIoRangeCheck v) := fun _ =>
  show rowMatches "DW.IO_RANGE_CHECK" (selectorOf (record 1 0x31 [])) = true by decide

theorem dwGeneric (reg : Byte) (v : Byte) : Statement (.dwGeneric reg v) := block_dw_generic reg

theorem dwVendorLd (reg : Byte) (v : Byte) : Statement (.dwVendorLd reg v) := block_dw_vendor_ld reg

theorem drSetRdPort : Statement (.drSetRdPort) := fun _ =>
  show rowMatches "DR.SET_RD_PORT" (selectorOf (record 2 0x00 [])) = true by decide

theorem drSerialIsolation : Statement (.drSerialIsolation) := fun _ =>
  show rowMatches "DR.SERIAL_ISOLATION" (selectorOf (record 2 0x01 [])) = true by decide

theorem drConfigControl : Statement (.drConfigControl) := fun _ =>
  show rowMatches "DR.CONFIG_CONTROL" (selectorOf (record 2 0x02 [])) = true by decide

theorem drWake : Statement (.drWake) := fun _ =>
  show rowMatches "DR.WAKE" (selectorOf (record 2 0x03 [])) = true by decide

theorem drResourceData : Statement (.drResourceData) := fun _ =>
  show rowMatches "DR.RESOURCE_DATA" (selectorOf (record 2 0x04 [])) = true by decide

theorem drStatus : Statement (.drStatus) := fun _ =>
  show rowMatches "DR.STATUS" (selectorOf (record 2 0x05 [])) = true by decide

theorem drCsn : Statement (.drCsn) := fun _ =>
  show rowMatches "DR.CSN" (selectorOf (record 2 0x06 [])) = true by decide

theorem drLdn : Statement (.drLdn) := fun _ =>
  show rowMatches "DR.LDN" (selectorOf (record 2 0x07 [])) = true by decide

theorem drUnrecognized (reg : Byte) : Statement (.drUnrecognized reg) := block_dr_unrecognized reg

theorem drVendorCard (reg : Byte) : Statement (.drVendorCard reg) := block_dr_vendor_card reg

theorem drActivate : Statement (.drActivate) := fun _ =>
  show rowMatches "DR.ACTIVATE" (selectorOf (record 2 0x30 [])) = true by decide

theorem drIoRangeCheck : Statement (.drIoRangeCheck) := fun _ =>
  show rowMatches "DR.IO_RANGE_CHECK" (selectorOf (record 2 0x31 [])) = true by decide

theorem drGeneric (reg : Byte) : Statement (.drGeneric reg) := block_dr_generic reg

theorem drVendorLd (reg : Byte) : Statement (.drVendorLd reg) := block_dr_vendor_ld reg

theorem rc (a : Port) : Statement (.rc a) := fun _ =>
  show rowMatches "RC" (selectorOf (record 3 0 [])) = true by decide

theorem addCard (rom : List Byte) (hooks : Hooks) : Statement (.addCard rom hooks) := fun _ =>
  show rowMatches "add_card" (selectorOf (record 4 0 [])) = true by decide

theorem setCsn (card : BitVec 32) (csn : Byte) : Statement (.setCsn card csn) := fun _ =>
  show rowMatches "set_csn" (selectorOf (record 5 0 [])) = true by decide

theorem machineInit : Statement (.machineInit) := fun _ =>
  show rowMatches "machine_init" (selectorOf (record 6 0 [])) = true by decide

theorem machineTeardown : Statement (.machineTeardown) := fun _ =>
  show rowMatches "machine_teardown" (selectorOf (record 7 0 [])) = true by decide

end Sys2Proof.Laws.SelectorMatches
end

