-- ==== Sys2Proof/Tests/Slice0.lean ====
section
/-! SUPPORT. Tests of the model. Expected values come from the spec: the tables of 30_encoding.md and the vectors of
95_test_vectors.md (named V-… below), or are worked out by hand from the rule named. `witness_<Name>…` shows that the
hypotheses of `Obligations.<Name>` can be met, one conjunct per clause. -/

namespace Sys2Proof.Tests

open Sys2Proof Sys2Proof.Machine

/-! ### Small states -/

/-- The state an operation completes in. -/
def nextOf : Result → Option State
  | .next t => some t
  | .fault _ => none
  | .refused _ => none

/-- The byte it returns, if it completes. -/
def byteOf (r : Result) : Option Reply := (nextOf r).bind fun t => t.ret

/-- romA's identity (95_test_vectors.md section 2), the placeholder, and one byte more. -/
def rom10 : List Byte := [0x0E, 0x63, 0x42, 0x36, 0x78, 0x56, 0x34, 0x12, 0x00, 0x0A]

def allHooks : Hooks := { cfgCb := true, csnCb := true, vendorRead := true, vendorWrite := true }

def noHooks : Hooks := { cfgCb := false, csnCb := false, vendorRead := false, vendorWrite := false }

/-- Device 1 of romA after attach: mask 0x51. -/
def device1 : LogicalDevice := resetLdRegs defaultParams { number := 1, regs := [], ulMask := 0x51 }

/-- Device 0 of romA after attach: mask 0x01. -/
def device0 : LogicalDevice := resetLdRegs defaultParams { number := 0, regs := [], ulMask := 0x01 }

/-- A device that answers range checks at 0x03F8 with 0xAA. -/
def responding : LogicalDevice := (((device0.setReg 0x31 0x02).setReg 0x60 0x03).setReg 0x61 0xF8)

/-- A card in a state, with a CSN. -/
def cardIn (st : CardState) (csn : Byte) : Card :=
  { Card.attached rom10 [device0, device1] allHooks with state := st, csn := csn }

/-- A live controller with these cards and the read port at 0x020B. -/
def withCards (cs : List Card) : State := { State.reset with cards := cs, readPort := 0x020B }

/-- Card 0 in CONFIG with CSN 1 and device 1 selected, as the vectors V-LD start. -/
def selected : State := { withCards [cardIn .config 1] with curLd := some ⟨0, 1⟩ }

/-- The same with a card that registered no hook. -/
def hookless : State :=
  { withCards [{ cardIn .config 1 with hooks := noHooks }] with curLd := some ⟨0, 1⟩ }

/-- Card 0 asleep, card 1 in ISOLATION at a position. -/
def isolating (pos : Fin 72) (pair : Bool) : State :=
  withCards [cardIn .sleep 1, { cardIn .isolation 0 with serialPos := pos, serialPair := pair, idChecksum := 0x6A }]

/-- One card waiting for the key at a key position. -/
def waiting (pos : BitVec 5) : State := { withCards [cardIn .waitForKey 0] with keyPos := pos }

/-- After a fatal error. -/
def faulted : State := { State.reset with fault := some .unknownLdn }

/-- After machine_teardown. -/
def dead : State := { State.reset with alive := false }

/-- The vectors' ROM pieces H, L, M(f) and E. -/
def romH : List Byte := [0x0E, 0x63, 0x00, 0x00, 0x01, 0x00, 0x00, 0x00, 0x00]

def romL : List Byte := [0x15, 0x0E, 0x63, 0x00, 0x00, 0x00]

def romM (f : Byte) : List Byte := [0x81, 0x09, 0x00, f, 0, 0, 0, 0, 0, 0, 0, 0]

def romE : List Byte := [0x79, 0x00]

/-- V-ROM-4: two alternatives for slot 0 that disagree. -/
def rom4 : List Byte := romH ++ romL ++ [0x31, 0x00] ++ romM 4 ++ [0x31, 0x01] ++ romM 0 ++ [0x38] ++ romE

/-- V-ROM-7: a fifth memory item. -/
def rom7 : List Byte := romH ++ romL ++ romM 0 ++ romM 0 ++ romM 0 ++ romM 0 ++ romM 0 ++ romE

/-! ### WellFormed refuses each ill-formed term -/

theorem test_wf_dw_unrecognized : (Instr.dwUnrecognized 0x07 0).wellFormed = false ∧
    (Instr.dwUnrecognized 0x20 0).wellFormed = false := by decide
theorem test_wf_dr_unrecognized : (Instr.drUnrecognized 0x07).wellFormed = false ∧
    (Instr.drUnrecognized 0x20).wellFormed = false := by decide
theorem test_wf_dw_vendor_card : (Instr.dwVendorCard 0x1F 0).wellFormed = false ∧
    (Instr.dwVendorCard 0x30 0).wellFormed = false := by decide
theorem test_wf_dr_vendor_card : (Instr.drVendorCard 0x1F).wellFormed = false ∧
    (Instr.drVendorCard 0x30).wellFormed = false := by decide
theorem test_wf_dw_generic : (Instr.dwGeneric 0x31 0).wellFormed = false ∧ (Instr.dwGeneric 0x38 0).wellFormed = false ∧
    (Instr.dwGeneric 0x3F 0).wellFormed = false ∧ (Instr.dwGeneric 0xF0 0).wellFormed = false ∧
    (Instr.dwGeneric 0xFE 0).wellFormed = false := by decide
theorem test_wf_dr_generic : (Instr.drGeneric 0x31).wellFormed = false ∧ (Instr.drGeneric 0x38).wellFormed = false ∧
    (Instr.drGeneric 0xFE).wellFormed = false := by decide
theorem test_wf_dw_vendor_ld : (Instr.dwVendorLd 0x37 0).wellFormed = false ∧ (Instr.dwVendorLd 0x40 0).wellFormed = false ∧
    (Instr.dwVendorLd 0xEF 0).wellFormed = false ∧ (Instr.dwVendorLd 0xFF 0).wellFormed = false := by decide
theorem test_wf_dr_vendor_ld : (Instr.drVendorLd 0x37).wellFormed = false ∧ (Instr.drVendorLd 0xFF).wellFormed = false := by
  decide
theorem test_wf_short_rom : (Instr.addCard (rom10.take 8) allHooks).wellFormed = false := by decide

/-! ### Decoding: selectors written out from 30_encoding.md R96 (the class in bits 10:8, the index in bits 7:0), here as
the record's two bytes, low byte first, and the operand bytes (log 11) -/

theorem test_decode_aw : decode [0x5A, 0x00, 0x6A] = .ok (.aw 0x6A, []) := rfl
theorem test_decode_dw_set_rd_port : decode [0x00, 0x01, 0x82] = .ok (.dwSetRdPort 0x82, []) := rfl
theorem test_decode_dw_serial_isolation : decode [0x01, 0x01, 0x55] = .ok (.dwSerialIsolation 0x55, []) := rfl
theorem test_decode_dw_config_control : decode [0x02, 0x01, 0x07] = .ok (.dwConfigControl 0x07, []) := rfl
theorem test_decode_dw_wake : decode [0x03, 0x01, 0x05] = .ok (.dwWake 0x05, []) := rfl
theorem test_decode_dw_resource_data : decode [0x04, 0x01, 0x55] = .ok (.dwResourceData 0x55, []) := rfl
theorem test_decode_dw_status : decode [0x05, 0x01, 0x55] = .ok (.dwStatus 0x55, []) := rfl
theorem test_decode_dw_csn : decode [0x06, 0x01, 0x01] = .ok (.dwCsn 0x01, []) := rfl
theorem test_decode_dw_ldn : decode [0x07, 0x01, 0x02] = .ok (.dwLdn 0x02, []) := rfl
theorem test_decode_dw_unrecognized : decode [0x1F, 0x01, 0x55] = .ok (.dwUnrecognized 0x1F 0x55, []) := rfl
theorem test_decode_dw_vendor_card : decode [0x21, 0x01, 0x44] = .ok (.dwVendorCard 0x21 0x44, []) := rfl
theorem test_decode_dw_activate : decode [0x30, 0x01, 0xFF] = .ok (.dwActivate 0xFF, []) := rfl
theorem test_decode_dw_io_range_check : decode [0x31, 0x01, 0x02] = .ok (.dwIoRangeCheck 0x02, []) := rfl
theorem test_decode_dw_generic : decode [0x32, 0x01, 0xA5] = .ok (.dwGeneric 0x32 0xA5, []) ∧
    decode [0xFF, 0x01, 0x77] = .ok (.dwGeneric 0xFF 0x77, []) := ⟨rfl, rfl⟩
theorem test_decode_dw_vendor_ld : decode [0x38, 0x01, 0x11] = .ok (.dwVendorLd 0x38 0x11, []) ∧
    decode [0xFE, 0x01, 0x33] = .ok (.dwVendorLd 0xFE 0x33, []) := ⟨rfl, rfl⟩
theorem test_decode_dr_set_rd_port : decode [0x00, 0x02] = .ok (.drSetRdPort, []) := rfl
theorem test_decode_dr_serial_isolation : decode [0x01, 0x02] = .ok (.drSerialIsolation, []) := rfl
theorem test_decode_dr_config_control : decode [0x02, 0x02] = .ok (.drConfigControl, []) := rfl
theorem test_decode_dr_wake : decode [0x03, 0x02] = .ok (.drWake, []) := rfl
theorem test_decode_dr_resource_data : decode [0x04, 0x02] = .ok (.drResourceData, []) := rfl
theorem test_decode_dr_status : decode [0x05, 0x02] = .ok (.drStatus, []) := rfl
theorem test_decode_dr_csn : decode [0x06, 0x02] = .ok (.drCsn, []) := rfl
theorem test_decode_dr_ldn : decode [0x07, 0x02] = .ok (.drLdn, []) := rfl
theorem test_decode_dr_unrecognized : decode [0x08, 0x02] = .ok (.drUnrecognized 0x08, []) := rfl
theorem test_decode_dr_vendor_card : decode [0x2F, 0x02] = .ok (.drVendorCard 0x2F, []) := rfl
theorem test_decode_dr_activate : decode [0x30, 0x02] = .ok (.drActivate, []) := rfl
theorem test_decode_dr_io_range_check : decode [0x31, 0x02] = .ok (.drIoRangeCheck, []) := rfl
theorem test_decode_dr_generic : decode [0xEF, 0x02] = .ok (.drGeneric 0xEF, []) := rfl
theorem test_decode_dr_vendor_ld : decode [0xF0, 0x02] = .ok (.drVendorLd 0xF0, []) := rfl
theorem test_decode_rc : decode [0x00, 0x03, 0xF8, 0x03] = .ok (.rc 0x03F8, []) := rfl
theorem test_decode_add_card : decode [0x00, 0x04, 0x09, 0x0E, 0x63] =
    .ok (.addCard [0x0E, 0x63] ⟨true, false, false, true⟩, []) := rfl
theorem test_decode_set_csn : decode [0x00, 0x05, 0x05, 0x01, 0x00, 0x00, 0x00] = .ok (.setCsn 1 5, []) := rfl
theorem test_decode_machine_init : decode [0x00, 0x06] = .ok (.machineInit, []) := rfl
theorem test_decode_machine_teardown : decode [0x00, 0x07] = .ok (.machineTeardown, []) := rfl
theorem test_decode_rejects : decode [0x00] = .error .truncated ∧ decode [0x42, 0x01] = .error .truncated ∧
    decode [0x00, 0x08] = .error .reservedSelectorBits ∧ decode [0x00, 0x04, 0x10] = .error .reservedHookBits :=
  ⟨rfl, rfl, rfl, rfl⟩

/-- A word of the table placed where the step fetches runs its operation: here DW.WAKE from reset. -/
theorem test_fetch : step (State.reset.withFetchWord 16 0x103) =
    exec (.dwWake 0) (State.reset.withReg 0x03) := rfl

/-! ### One operation -/

/-- V-AW-3: the first key byte advances the position; a mismatching byte is not tried again. -/
theorem test_aw_key_match : (nextOf (exec (.aw 0x6A) (waiting 0))).map (fun t => (t.keyPos, t.reg)) = some (1, 0) := by
  decide
theorem test_aw_key_mismatch : (nextOf (exec (.aw 0x6A) (waiting 1))).map (fun t => t.keyPos) = some 0 := by decide
/-- V-RDP-3 and V-RDP-2. -/
theorem test_set_rd_port_lowest : (nextOf (exec (.dwSetRdPort 0x80) State.reset)).map (fun t => t.readPort) =
    some 0x0203 := by decide
theorem test_set_rd_port_unmaps : (nextOf (exec (.dwSetRdPort 0x7F) selected)).map (fun t => t.readPort) = some 0 := by
  decide
/-- V-CC-5: all three commands; two devices' events, then the CSN event. -/
theorem test_config_control_all : (nextOf (exec (.dwConfigControl 0x07) selected)).map
    (fun t => (t.events.length, t.readPort, t.curLd, t.cards.map fun c => (c.state, c.csn))) =
    some (3, 0, none, [(.waitForKey, 0)]) := by decide
/-- V-CC-4: bits 7:3 do nothing. -/
theorem test_config_control_high_bits : nextOf (exec (.dwConfigControl 0xF8) selected) = some selected := by decide
/-- V-WK-1 and V-WK-3. -/
theorem test_wake_zero : (nextOf (exec (.dwWake 0) (withCards [cardIn .sleep 0, cardIn .sleep 5]))).map
    (fun t => t.cards.map fun c => (c.state, c.idChecksum)) = some [(.isolation, 0x6A), (.sleep, 0)] := by decide
theorem test_wake_matching_not_asleep : (nextOf (exec (.dwWake 5) (withCards [cardIn .sleep 0, cardIn .config 5]))).map
    (fun t => t.cards.map fun c => c.state) = some [.sleep, .config] := by decide
/-- V-CSN-3 and V-CSN-1. -/
theorem test_csn_write : (nextOf (exec (.dwCsn 1) { isolating 0 true with isolated := some 1 })).map
    (fun t => (t.isolated, t.events, t.cards.map fun c => (c.state, c.csn))) =
    some (none, [.csnChanged 1 1], [(.sleep, 1), (.config, 1)]) := by decide
theorem test_csn_write_unmarked : nextOf (exec (.dwCsn 7) selected) = some selected := by decide
/-- V-CSN-5 and V-CSN-6. -/
theorem test_ldn_write : (nextOf (exec (.dwLdn 0) selected)).map (fun t => t.curLd) = some (some ⟨0, 0⟩) := by decide
theorem test_ldn_write_fatal : (nextOf (exec (.dwLdn 2) selected)).map (fun t => (t.fault, t.curLd, t.events)) =
    some (some .unknownLdn, some ⟨0, 1⟩, [.fatal .unknownLdn 2]) := by decide
/-- V-BLANK. -/
theorem test_blank_writes : nextOf (exec (.dwSerialIsolation 0x55) selected) = some selected ∧
    nextOf (exec (.dwResourceData 0x55) selected) = some selected ∧
    nextOf (exec (.dwStatus 0x55) selected) = some selected ∧
    nextOf (exec (.dwUnrecognized 0x1F 0x55) selected) = some selected := by decide
theorem test_blank_reads : byteOf (exec .drSetRdPort selected) = some (.byte 0xFF) ∧
    byteOf (exec .drConfigControl selected) = some (.byte 0xFF) ∧ byteOf (exec .drWake selected) = some (.byte 0xFF) ∧
    byteOf (exec (.drUnrecognized 0x08) selected) = some (.byte 0xFF) := by decide
/-- V-RES-2 and V-RES-1. -/
theorem test_resource_data : (nextOf (exec .drResourceData (withCards [{ cardIn .config 1 with romPos := 9 }]))).map
    (fun t => (t.ret, t.cards.map fun c => c.romPos)) = some (some (.byte 0x0A), [10]) := by decide
theorem test_resource_data_past_end : (nextOf (exec .drResourceData (withCards [{ cardIn .config 1 with romPos := 10 }]))).map
    (fun t => (t.ret, t.cards.map fun c => c.romPos)) = some (some (.byte 0xFF), [10]) := by decide
/-- V-ST, V-CSN-5, V-GUARD. -/
theorem test_status : byteOf (exec .drStatus selected) = some (.byte 1) ∧
    byteOf (exec .drStatus (waiting 0)) = some (.byte 0) := by decide
theorem test_csn_read : byteOf (exec .drCsn selected) = some (.byte 1) ∧
    byteOf (exec .drCsn (waiting 0)) = some (.byte 0) := by decide
theorem test_ldn_read : byteOf (exec .drLdn selected) = some (.byte 1) ∧
    byteOf (exec .drLdn (waiting 0)) = some (.byte 0xFF) := by decide
/-- V-ISO-1: the first bit of 0E is 0 and steps 6A to 35; V-ISO-5. -/
theorem test_isolation_first_pulse : (nextOf (exec .drSerialIsolation (isolating 0 false))).map
    (fun t => (t.ret, t.isolated, t.cards.map fun c => (c.idChecksum, c.serialPair))) =
    some (some (.byte 0), some 1, [(0, false), (0x35, true)]) := by decide
theorem test_isolation_none : (nextOf (exec .drSerialIsolation { selected with isolated := some 0 })).map
    (fun t => (t.ret, t.isolated)) = some (some (.byte 0xFF), none) := by decide
/-- V-LFSR: romA's identity under both tap settings of D3. -/
theorem test_lfsr : (cardIn .isolation 0).identityChecksum defaultParams = 0xA4 ∧
    (cardIn .isolation 0).identityChecksum { defaultParams with lfsrTapA := 0, lfsrTapB := 1 } = 0x4C := by decide +kernel
/-- V-LD-10. -/
theorem test_vendor_writes : (nextOf (exec (.dwVendorCard 0x21 0x44) selected)).map (fun t => t.events) =
    some [.vendorWrite 0 0 0x21 0x44] ∧
    (nextOf (exec (.dwVendorLd 0xF0 0x22) selected)).map (fun t => t.events) = some [.vendorWrite 0 1 0xF0 0x22] := by decide
/-- V-LD-11 and V-LD-12. -/
theorem test_vendor_reads_ask : (nextOf (exec (.drVendorCard 0x20) selected)).map (fun t => t.asked) =
    some (some ⟨0, 0, 0x20⟩) ∧
    (nextOf (exec (.drVendorLd 0x38) selected)).map (fun t => t.asked) = some (some ⟨0, 1, 0x38⟩) := by decide
theorem test_vendor_reads_without_hook : byteOf (exec (.drVendorCard 0x20) hookless) = some (.byte 0xFF) ∧
    byteOf (exec (.drVendorLd 0x38) hookless) = some (.byte 0xFF) := by decide
/-- V-LD-13. -/
theorem test_device_reads : byteOf (exec .drActivate selected) = some (.byte 0) ∧
    byteOf (exec .drIoRangeCheck selected) = some (.byte 0) ∧ byteOf (exec (.drGeneric 0x74) selected) = some (.byte 4) ∧
    byteOf (exec (.drGeneric 0x42) selected) = some (.byte 1) := by decide
/-- The register a write leaves in device 1 of card 0, and how many events it emits. -/
def stored (r : Byte) (o : Result) : Option (Option Byte × Nat) :=
  (nextOf o).map fun t => ((t.cards.head?.bind fun c => c.lds[1]?).map fun d => d.reg r, t.events.length)
/-- V-LD-6 and V-LD-7. -/
theorem test_activate : stored 0x30 (exec (.dwActivate 0xFF) selected) = some (some 0x01, 1) ∧
    stored 0x30 (exec (.dwActivate 0x02) selected) = some (some 0x00, 1) := by decide
theorem test_io_range_check : stored 0x31 (exec (.dwIoRangeCheck 0xFF) selected) = some (some 0x03, 0) ∧
    stored 0x31 (exec (.dwIoRangeCheck 0x04) selected) = some (some 0x00, 0) := by decide
/-- V-LD-2, V-LD-4, V-LD-3. -/
theorem test_generic_guarded : stored 0x42 (exec (.dwGeneric 0x42 0xFE) selected) = some (some 0xFF, 1) ∧
    stored 0x4A (exec (.dwGeneric 0x4A 0xFF) selected) = some (some 0xFE, 1) := by decide
theorem test_generic_verbatim : stored 0x43 (exec (.dwGeneric 0x43 0xFF) selected) = some (some 0xFF, 1) := by decide
/-- V-RC. -/
theorem test_rc_responder : byteOf (exec (.rc 0x03F8) (withCards [{ cardIn .sleep 0 with lds := [device1, responding] }])) =
    some (.byte 0xAA) := by decide
theorem test_rc_nobody : nextOf (exec (.rc 0x02F8) (withCards [{ cardIn .sleep 0 with lds := [responding] }])) =
    some (withCards [{ cardIn .sleep 0 with lds := [responding] }]) := by decide
/-- V-ROM-4: the mask, the last byte, and the assign setting of D7; V-ROM-7. -/
theorem test_add_card : (nextOf (exec (.addCard rom4 allHooks) State.reset)).map
    (fun t => t.cards.map fun c => (c.state, c.rom.getLast?, c.lds.map fun d => (d.ulMask, d.reg 0x42))) =
    some [(.waitForKey, some 0x4E, [(0x01, 0x01)])] := by decide +kernel
theorem test_add_card_assign : (parseRom { defaultParams with ulMaskMerge := .assign } (storeResourceChecksum rom4)).toOption.map
    (fun lds => lds.map fun d => d.ulMask) = some [0x00] := by decide +kernel
theorem test_add_card_fatal : (nextOf (exec (.addCard rom7 allHooks) State.reset)).map
    (fun t => (t.fault, t.events, t.cards.length)) =
    some (some .tooManyMemSlots, [.fatal .tooManyMemSlots 16], 0) := by decide +kernel
/-- V-SET-1. -/
theorem test_set_csn : (nextOf (exec (.setCsn 1 5) (withCards [cardIn .sleep 0, cardIn .waitForKey 0]))).map
    (fun t => (t.events, t.cards.map fun c => (c.state, c.csn))) =
    some ([.csnChanged 1 5], [(.sleep, 0), (.waitForKey, 5)]) := by decide
theorem test_machine_init : nextOf (exec .machineInit faulted) = some State.reset := by decide
theorem test_machine_teardown : (nextOf (exec .machineTeardown selected)).map (fun t => (t.alive, t.cards.length)) =
    some (false, 0) := by decide

/-! ### Witnesses: the hypotheses of each statement can be met -/

/-- For every statement whose only hypothesis is a live controller: SetReadPortMapsOrUnmaps, BlankDirectionWrites-
AreDropped, ConfigControlRunsItsCommands, ReturnToWaitForKeyMovesEveryCard, WakeSeedsMatchingCardsAndSleepsTheRest,
InitAndTeardownOfTheController. -/
theorem witness_Live : selected.Live := by decide
/-- For every statement whose only hypothesis is a live, mapped controller: BlankDirectionReadsReturnFF,
StatusReadsConfigPresence. -/
theorem witness_Readable : selected.Readable := by decide

theorem witness_DecodeOfEncodeIsTheOperation : (Instr.dwGeneric 0x32 0).wellFormed = true ∧
    (Instr.dwGeneric 0xEF 0).wellFormed = true ∧ (Instr.dwVendorLd 0xFE 0).wellFormed = true ∧
    (Instr.drUnrecognized 0x1F).wellFormed = true ∧ (Instr.addCard romH allHooks).wellFormed = true := by decide

/-- A state with one access pending. -/
def pendingOn (s : State) (r : Request) : State := s.withPending [r]

theorem witness_StepRunsTheDecodedOperation : (pendingOn selected (.read 0x020B)).pending = [.read 0x020B] ∧
    route ((pendingOn selected (.read 0x020B)).withPending []) (.read 0x020B) = .operation [0x00, 0x02] ∧
    decode [0x00, 0x02] = .ok (.drSetRdPort, []) := ⟨rfl, by decide, rfl⟩

theorem witness_AccessesSelectTheirOperation_writes :
    (pendingOn selected (.write 0x0279 5)).pending = [.write 0x0279 5] ∧
    (pendingOn selected (.write 0x0A79 5)).pending = [.write 0x0A79 5] ∧
    selected.cfg.addressPort = 0x0279 ∧ selected.cfg.writeDataPort = 0x0A79 := by decide
theorem witness_AccessesSelectTheirOperation_data_read : selected.readPort ≠ 0 ∧
    selected.readPort ≠ selected.cfg.addressPort ∧ selected.readPort ≠ selected.cfg.writeDataPort ∧
    (∀ c ∈ selected.cards, ∀ d ∈ c.lds, respondsAt d selected.readPort = false) ∧
    (pendingOn selected (.read 0x020B)).pending = [.read selected.readPort] := by decide
theorem witness_AccessesSelectTheirOperation_other_read :
    (pendingOn State.reset (.read 0x0000)).readPort = 0 ∧ (0x0000 : Port) ≠ State.reset.cfg.addressPort ∧
    (0x0000 : Port) ≠ State.reset.cfg.writeDataPort ∧ (0x03F8 : Port) ≠ selected.readPort ∧
    (0x03F8 : Port) ≠ selected.cfg.addressPort ∧ (0x03F8 : Port) ≠ selected.cfg.writeDataPort ∧
    (0x0279 : Port) ≠ selected.readPort ∧ selected.NoneRespondsAt 0x0279 := by decide
theorem witness_AccessesSelectTheirOperation_calls :
    (pendingOn State.reset (.addCard rom10 allHooks)).pending = [.addCard rom10 allHooks] ∧
    (pendingOn State.reset (.setCsn 0 1)).pending = [.setCsn 0 1] ∧
    (pendingOn State.reset .machineInit).pending = [.machineInit] ∧
    (pendingOn State.reset .machineTeardown).pending = [.machineTeardown] := by decide

/-- A responder at 0x0203, where the read port also is. -/
def overlapping : State :=
  { withCards [{ cardIn .sleep 0 with lds := [(responding.setReg 0x60 0x02).setReg 0x61 0x03] }] with readPort := 0x0203 }

theorem witness_AmbiguousAndWideAccessesAreRefused_overlap :
    (∃ c ∈ overlapping.cards, ∃ d ∈ c.lds, respondsAt d 0x0203 = true) ∧ overlapping.readPort = 0x0203 ∧
    (pendingOn overlapping (.read 0x0203)).pending = [.read 0x0203] := by decide
/-- A setting in which both fixed ports are 0x0279. -/
def coinciding : State := { State.reset with cfg := { defaultParams with writeDataPort := 0x0279 } }
theorem witness_AmbiguousAndWideAccessesAreRefused_ports : coinciding.cfg.addressPort = coinciding.cfg.writeDataPort ∧
    (pendingOn coinciding (.write 0x0279 0)).pending = [.write coinciding.cfg.addressPort 0] := by decide
/-- A setting whose ADDRESS port is the mapped read-data port. -/
def readPortAtAddress : State := { selected with cfg := { defaultParams with addressPort := 0x020B } }
theorem witness_AmbiguousAndWideAccessesAreRefused_read_port :
    readPortAtAddress.readPort ≠ 0 ∧ readPortAtAddress.readPort = readPortAtAddress.cfg.addressPort ∧
    (pendingOn readPortAtAddress (.read 0x020B)).pending = [.read readPortAtAddress.readPort] := by decide
/-- A read over ADDRESS, a write over the read-data port, a read whose last byte is a responder's address. -/
theorem witness_AmbiguousAndWideAccessesAreRefused_wide : (3 : Port) ∈ wideOffsets .dword ∧
    selected.PortAt (0x0276 + 3) ∧ (1 : Port) ∈ wideOffsets .word ∧ selected.PortAt (0x020A + 1) ∧
    overlapping.PortAt (0x0200 + 3) ∧
    (pendingOn selected (.wide .read .dword 0x0276)).pending = [.wide .read .dword 0x0276] ∧
    (pendingOn selected (.wide .write .word 0x020A)).pending = [.wide .write .word 0x020A] ∧
    (pendingOn overlapping (.wide .read .dword 0x0200)).pending = [.wide .read .dword 0x0200] := by decide

theorem witness_UnclaimedAccessesChangeNothing : State.reset.pending = [] ∧ selected.Live ∧
    (0x027A : Port) ≠ selected.cfg.addressPort ∧ (0x027A : Port) ≠ selected.cfg.writeDataPort ∧
    (pendingOn selected (.write 0x027A 1)).pending = [.write 0x027A 1] := by decide
/-- A read of the fixed DATA port (R63, D17). -/
theorem witness_UnclaimedAccessesChangeNothing_read : selected.Live ∧ (0x0A79 : Port) ≠ selected.readPort ∧
    selected.NoneRespondsAt 0x0A79 ∧ (pendingOn selected (.read 0x0A79)).pending = [.read 0x0A79] := by decide
/-- A four-byte write that ends one byte below ADDRESS. -/
theorem witness_UnclaimedAccessesChangeNothing_wide : (∀ k ∈ wideOffsets .dword, ¬ selected.PortAt (0x0275 + k)) ∧
    (pendingOn selected (.wide .write .dword 0x0275)).pending = [.wide .write .dword 0x0275] := by
  refine ⟨fun k hk => ?_, rfl⟩
  simp only [wideOffsets, List.mem_cons, List.not_mem_nil, or_false] at hk
  rcases hk with rfl | rfl | rfl | rfl <;> decide
/-- R66, D18: a wide read over WRITE_DATA and a wide write over the read-data port are refused. -/
theorem test_wide_either_direction : route selected (.wide .read .word 0x0A78) = .stop (.wideAccess 0x0A78) ∧
    route selected (.wide .write .word 0x020B) = .stop (.wideAccess 0x020B) := by decide

/-- The five clauses: the empty chain; unlocked; a wrong byte; the 31st byte; the 32nd. -/
theorem witness_AddressWriteIsKeyByteOrIndex : (State.reset.Live ∧ State.reset.cards = []) ∧
    (selected.Live ∧ selected.cards = [cardIn .config 1] ∧ (cardIn .config 1).state ≠ .waitForKey) ∧
    ((waiting 30).Live ∧ (waiting 30).cards = [cardIn .waitForKey 0] ∧ (cardIn .waitForKey 0).state = .waitForKey) ∧
    ((0x39 : Byte) ≠ (waiting 30).expectedKeyByte ∧ (0x73 : Byte) = (waiting 30).expectedKeyByte ∧
      (waiting 30).keyPos.toNat < 31) ∧
    (0x39 : Byte) = (waiting 31).expectedKeyByte ∧ (waiting 31).keyPos.toNat = 31 :=
  ⟨⟨by decide, rfl⟩, ⟨by decide, rfl, by decide⟩, ⟨by decide, rfl, rfl⟩, ⟨by decide, by decide, by decide⟩, by decide, rfl⟩
theorem witness_KeySequenceArmsEveryWaitingCard : (waiting 0).Live ∧ (waiting 0).cards = [cardIn .waitForKey 0] ∧
    (cardIn .waitForKey 0).state = .waitForKey ∧ (waiting 0).keyPos = 0 := by decide
theorem witness_UnrecognizedIndicesAreInert : 0x08 ≤ (0x08 : Byte).toNat ∧ (0x08 : Byte).toNat ≤ 0x1F ∧
    0x08 ≤ (0x1F : Byte).toNat ∧ (0x1F : Byte).toNat ≤ 0x1F ∧ selected.Live ∧ selected.Readable := by decide
theorem witness_CardStatesFollowTheTransitionTable :
    exec (.dwStatus 0) selected = .next selected ∧ selected.cards[0]? = some (cardIn .config 1) ∧
    Instr.dwStatus 0 ≠ .machineInit ∧ Instr.dwStatus 0 ≠ .machineTeardown := ⟨rfl, rfl, by decide, by decide⟩

/-- Card 1 is the first in CONFIG. -/
def second (pos : Nat) : State := withCards [cardIn .sleep 1, { cardIn .config 2 with romPos := pos }]

theorem witness_ResourceDataReadsTheNextRomByte : (waiting 0).Readable ∧ (waiting 0).NoneIn .config ∧
    (second 9).Readable ∧ (second 9).FirstIn .config 1 { cardIn .config 2 with romPos := 9 } ∧ rom10[9]? = some 0x0A ∧
    (second 10).FirstIn .config 1 { cardIn .config 2 with romPos := 10 } ∧ rom10.length ≤ 10 := by decide
theorem witness_CsnReadReturnsTheConfigCardsCsn : (waiting 0).Readable ∧ (waiting 0).NoneIn .config ∧
    (second 0).Readable ∧ (second 0).FirstIn .config 1 (cardIn .config 2) := by decide
theorem witness_CsnWriteConfiguresTheIsolatedCard : selected.Live ∧ selected.isolated = none ∧
    ({ selected with isolated := some 0 } : State).Live ∧ ({ selected with isolated := some 0 } : State).isolated = some 0 ∧
    selected.cards[0]? = some (cardIn .config 1) := by decide
theorem witness_LdnReadReturnsTheSelectedNumber : (waiting 0).Readable ∧ (waiting 0).curLd = none ∧ selected.Readable ∧
    selected.Selected ⟨0, 1⟩ (cardIn .config 1) device1 := by decide
theorem witness_LdnWriteSelectsOrIsFatal : (waiting 0).Live ∧ (waiting 0).NoneIn .config ∧ selected.Live ∧
    selected.FirstIn .config 0 (cardIn .config 1) ∧ (cardIn .config 1).lds[1]? = some device1 ∧ device1.number = 1 ∧
    (∀ e ∈ (cardIn .config 1).lds.take 1, e.number ≠ 1) ∧ (∀ d ∈ (cardIn .config 1).lds, d.number ≠ 2) := by decide
/-- No card; the first and the last identity position; the first and the last checksum position; a second pulse. -/
theorem witness_IsolationReadSendsOnePulse : selected.Readable ∧ selected.NoneIn .isolation ∧
    (∀ pos ∈ [(0 : Fin 72), 63, 64, 71], (isolating pos false).Readable ∧
      (isolating pos false).FirstIn .isolation 1
        { cardIn .isolation 0 with serialPos := pos, serialPair := false, idChecksum := 0x6A }) ∧
    (isolating 71 true).FirstIn .isolation 1
      { cardIn .isolation 0 with serialPos := 71, serialPair := true, idChecksum := 0x6A } := by decide +kernel
theorem witness_IsolationPassSendsTheHeader : 9 ≤ (Card.attached romH [] allHooks).rom.length := by decide
theorem witness_VendorCardAccessesReachTheConfigCard : (waiting 0).Readable ∧ (waiting 0).NoneIn .config ∧
    hookless.Readable ∧ hookless.FirstIn .config 0 { cardIn .config 1 with hooks := noHooks } ∧
    selected.Readable ∧ selected.FirstIn .config 0 (cardIn .config 1) ∧ (cardIn .config 1).hooks.vendorRead = true := by
  decide
/-- Also for ActivateWriteStoresBitZeroAndFires, RangeCheckWriteStoresTwoBits and GenericWriteKeepsUpperLimitFlags. -/
theorem witness_VendorDeviceReadAsksTheOwningCard_VendorDeviceWriteEmitsOneEvent : (waiting 0).Readable ∧
    (waiting 0).curLd = none ∧
    hookless.Readable ∧ hookless.Selected ⟨0, 1⟩ { cardIn .config 1 with hooks := noHooks } device1 ∧
    selected.Readable ∧ selected.Selected ⟨0, 1⟩ (cardIn .config 1) device1 ∧
    (cardIn .config 1).hooks.vendorRead = true := by decide
theorem witness_DeviceReadsReturnTheRegister : selected.Readable ∧ selected.Selected ⟨0, 1⟩ (cardIn .config 1) device1 ∧
    (waiting 0).Readable ∧ (waiting 0).curLd = none := by decide
/-- Also for GenericWriteReadsBack. -/
theorem witness_DeviceWriteLeavesEveryOtherByte : selected.Live ∧ selected.Readable ∧ selected.RegisterFilesCanonical ∧
    selected.Selected ⟨0, 1⟩ (cardIn .config 1) device1 ∧ selected.cards[0]? = some (cardIn .config 1) ∧
    (cardIn .config 1).lds[0]? = some device0 := by decide
/-- No responder at address 0; the second device of a card as the first responder at 0x03F8. -/
theorem witness_RangeCheckReadAnswersTheFirstDevice : selected.Live ∧
    (∀ c ∈ selected.cards, ∀ d ∈ c.lds, respondsAt d 0 = false) ∧
    (withCards [{ cardIn .sleep 0 with lds := [device1, responding] }]).cards.flatMap (fun c => c.lds) =
      [device1] ++ responding :: [] ∧
    (device1.reg 0x31).getLsbD 1 = false ∧ (responding.reg 0x31).getLsbD 1 = true ∧
    (0x03F8 : Port) = responding.reg (BitVec.ofNat 8 (0x60 + 2 * 0)) ++ responding.reg (BitVec.ofNat 8 (0x61 + 2 * 0)) := by
  decide
theorem witness_ResetCommandRemovesEveryResponder : overlapping.Live ∧ SaneParams overlapping.cfg ∧
    (0x01 : Byte).getLsbD 0 = true := by decide
theorem witness_AddCardAttachesAtTheTail : State.reset.Live ∧ 9 ≤ romH.length ∧
    (parseRom State.reset.cfg (storeResourceChecksum romH)).toOption = some [] ∧ 9 ≤ rom7.length ∧
    (parseRom State.reset.cfg (storeResourceChecksum rom7)).toOption = none ∧ (romH.take 8).length < 9 := by decide +kernel
theorem witness_ResourceChecksumMakesTheSumZero : 10 ≤ rom10.length ∧ romH.length ≤ 9 ∧ 8 + 1 ≠ rom10.length := by decide
theorem witness_ParsedDevicesAreNumberedWithDefaults :
    (parseRom defaultParams (romH ++ romL)).toOption.map (fun lds => lds.map fun d => d.number) = some [0] := by
  decide +kernel
/-- A fatal ROM; a ROM without a device; one whose last device is still open. -/
theorem witness_ParsedDevicesAreNumberedWithDefaults_runs :
    (ParserState.start.actAll defaultParams (descriptorItems rom7)).toOption = none ∧
    (ParserState.start.actAll defaultParams (descriptorItems romH)).toOption.map (fun ps => ps.current) = some none ∧
    (ParserState.start.actAll defaultParams (descriptorItems (romH ++ romL))).toOption.map
      (fun ps => ps.current.map fun d => d.number) = some (some 0) := by decide +kernel

/-- Each form of a first item and each way a stream ends, at the boundaries of its ranges (R244). -/
theorem witness_DescriptorStreamIsReadItemByItem :
    ((2 < 16 ∧ (List.replicate 7 (0 : Byte)).length < 8) ∧ (127 < 128 ∧ (List.replicate 9 (0 : Byte)).length < 65536)) ∧
    ((15 < 16 ∧ 7 < 8 ∧ (List.replicate 6 (0 : Byte)).length < 7) ∧ (1 < 128 ∧ ([] : List Byte).length < 1)) ∧
    ([0x09] : List Byte).length < 2 ∧ nextItem (romH.drop 9) = none ∧ romH.length = 9 ∧
    nextItem [0x79, 0x00, 0x10] = some (⟨false, 15, [0x00]⟩, [0x10]) := by decide
theorem witness_ItemsActByTheirTag : ParserState.start.current = none ∧
    ({ ParserState.start with current := some device0 } : ParserState).current = some device0 := by decide

/-- A parser inside its first device with `n` 16-bit slots taken. -/
def parsing (n : Nat) : ParserState := { ParserState.start with current := some device0, m16 := n }

theorem witness_DependentAlternativesTakeTheSameSlot : ParserState.start.inDf = false ∧
    ({ ParserState.start with inDf := true } : ParserState).inDf = true ∧ (parsing 3).current = some device0 ∧
    (parsing 3).inDf = false ∧ (parsing 3).m16 < 4 := by decide
theorem witness_MemoryItemsTakeFourSlots : ParserState.start.current = none ∧ (parsing 4).current = some device0 ∧
    4 ≤ (parsing 4).m16 ∧ (parsing 3).m16 < 4 ∧ (parsing 4).m32 < 4 := by decide
/-- An item that is acted on and one that is fatal. -/
theorem witness_ParsedDevicesAreNumberedWithDefaults_items :
    ((parsing 3).act defaultParams ⟨true, 1, [0x04]⟩).toOption.map (fun ps => ps.m16) = some 4 ∧
    (parsing 4).act defaultParams ⟨true, 1, [0x04]⟩ = .error .bits16 := ⟨by decide, rfl⟩
theorem witness_SetCsnForcesTheCsn : selected.Live ∧ selected.cards[(0 : BitVec 32).toNat]? = some (cardIn .config 1) ∧
    selected.cards.length ≤ (1 : BitVec 32).toNat := ⟨by decide, rfl, Nat.le_refl 1⟩
theorem witness_NothingRunsAfterAFaultOrTeardown : Instr.drStatus ≠ .machineInit ∧ faulted.alive = true ∧
    faulted.fault = some .unknownLdn ∧ dead.alive = false ∧ ¬ faulted.Live ∧ ¬ dead.Live ∧
    (Request.write 0x027A 1) ≠ .machineInit ∧ (pendingOn dead (.write 0x027A 1)).pending = [.write 0x027A 1] := by decide
theorem witness_LiveOperationsComplete : State.reset.Live ∧ (Instr.rc 0).wellFormed = true ∧
    (Instr.addCard romH noHooks).wellFormed = true := by decide
/-- A DW.LDN that is fatal and one that is not. -/
theorem witness_FatalErrorsAreTheTwoListed : selected.Live ∧ (nextOf (exec (.dwLdn 2) selected)).isSome = true ∧
    (nextOf (exec (.dwLdn 1) selected)).isSome = true := by decide
theorem witness_ControllerFieldsHaveTheseWriters_CardFieldsHaveTheseWriters :
    exec (.dwStatus 0) selected = .next selected ∧ Instr.dwStatus 0 ≠ .machineInit ∧
    Instr.dwStatus 0 ≠ .machineTeardown ∧ selected.cards[0]? = some (cardIn .config 1) :=
  ⟨rfl, by decide, by decide, rfl⟩
theorem witness_OtherReadsChangeNothing : exec .drStatus selected = .next (selected.reply (.byte 1)) ∧
    exec (.rc 0) selected = .next selected := ⟨rfl, rfl⟩

/-- A write of the key's first byte pending on one waiting card. -/
def stepping : State := pendingOn (waiting 0) (.write 0x0279 0x6A)

/-- The step from `stepping` completes; the invariants hold there. -/
theorem witness_StepKeepsTheParameters : step stepping = .next { waiting 0 with keyPos := 1 } := by rfl
theorem witness_StepKeepsRegisterFilesCanonical : stepping.RegisterFilesCanonical := by decide
theorem witness_StepKeepsTheLockInvariant : stepping.LockInvariant := by decide
theorem witness_StepKeepsReferencesAndReadPort : stepping.ReadPortLegal ∧
    (∀ i, stepping.isolated = some i → i < stepping.cards.length) ∧ stepping.curLd = none :=
  ⟨by decide, fun _ h => (nomatch h), rfl⟩

theorem device0_invariant : DeviceInvariant device0 :=
  ⟨by decide, by decide, by decide, by decide, by decide, by decide +kernel⟩
theorem device1_invariant : DeviceInvariant device1 :=
  ⟨by decide, by decide, by decide, by decide, by decide, by decide +kernel⟩
theorem card_invariant : CardInvariant defaultParams (cardIn .waitForKey 0) where
  header := by decide
  pointer := by decide
  numbered
    | 0, _, h => by cases h; rfl
    | 1, _, h => by cases h; rfl
    | _ + 2, _, h => by cases h
  devices d h := by
    rcases List.mem_cons.mp h with rfl | h
    · exact device0_invariant
    · rcases List.mem_cons.mp h with rfl | h
      · exact device1_invariant
      · cases h
theorem witness_StepKeepsTheCardsInvariant : stepping.CardsInvariant where
  params := by decide
  cards c h := by
    rcases List.mem_cons.mp h with rfl | h
    · exact card_invariant
    · cases h

end Sys2Proof.Tests
end

/-! # Proofs: the operations by what a step serves, and the parameters they keep (R6, R52; log 2) -/

namespace Sys2Proof.Machine

/-! ### What a step can do -/

/-- A step that answers a next state had nothing to serve, served an access the block does not claim, or ran an
operation on the state without the served access. -/
theorem step_next {s t : State} (h : step s = .next t) :
    (s.pending = [] ∧ t = s) ∨
      ∃ r rest, s.pending = r :: rest ∧
        (unclaimedAccess (s.withPending rest) = .next t ∨ ∃ i, exec i (s.withPending rest) = .next t) := by
  unfold step at h
  split at h
  next hp => cases h; exact .inl ⟨hp, rfl⟩
  next r rest hp =>
    refine .inr ⟨r, rest, hp, ?_⟩
    unfold serve at h
    split at h
    next bytes _ =>
      unfold runRecord at h
      split at h
      next i _ _ => exact .inr ⟨i, h⟩
      next => cases h
    next => exact .inl h
    next => cases h

/-! ### Results that keep the parameters -/

/-- If the result is a next state, its parameters are `p`. -/
def KeepsCfg (p : Params) (r : Result) : Prop := ∀ t, r = .next t → t.cfg = p

@[simp] theorem keepsCfg_next {p : Params} {t : State} : KeepsCfg p (.next t) ↔ t.cfg = p := by
  simp [KeepsCfg]

@[simp] theorem keepsCfg_fault (p : Params) (k : Fault) : KeepsCfg p (.fault k) := by
  simp [KeepsCfg]

@[simp] theorem keepsCfg_refused (p : Params) (why : Refusal) : KeepsCfg p (.refused why) := by
  simp [KeepsCfg]

/-- Behind the guard, an operation keeps the parameters where its body does. -/
theorem operate_keepsCfg {s : State} {body : State → Result} (h : KeepsCfg s.cfg (body s.clearOutputs)) :
    KeepsCfg s.cfg (operate s body) := fun t ht =>
  have ⟨_, _, hbody⟩ := operate_next ht
  h t hbody

/-- A DATA read keeps the parameters where its body does: an unmapped one changes nothing but the outputs. -/
theorem dataRead_keepsCfg {s : State} {body : State → Result} (h : KeepsCfg s.cfg (body s.clearOutputs)) :
    KeepsCfg s.cfg (dataRead s body) := fun t ht => by
  obtain ⟨_, _, ⟨_, rfl⟩ | ⟨_, hbody⟩⟩ := dataRead_next ht
  · exact s.clearOutputs_cfg
  · exact h t hbody

theorem ignoredWrite_keepsCfg (s : State) : KeepsCfg s.cfg (ignoredWrite s) :=
  operate_keepsCfg (by simp)

theorem constantRead_keepsCfg (s : State) (b : Byte) : KeepsCfg s.cfg (constantRead s b) :=
  dataRead_keepsCfg (by simp)

theorem vendorRead_keepsCfg (s : State) (i : Nat) (c : Card) (ldn reg : Byte) :
    KeepsCfg s.cfg (vendorRead s i c ldn reg) := by
  rw [vendorRead_eq, keepsCfg_next]
  split <;> simp

theorem readDeviceReg_keepsCfg (s : State) (r : Byte) : KeepsCfg s.cfg (readDeviceReg s r) :=
  dataRead_keepsCfg (by split <;> simp)

theorem writeDeviceReg_keepsCfg (s : State) (r : Byte) (f : Byte → Byte) (fires : Bool) :
    KeepsCfg s.cfg (writeDeviceReg s r f fires) := fun t ht => by
  obtain ⟨_, _, ⟨_, rfl⟩ | ⟨ref, c, d, _, rfl⟩⟩ := writeDeviceReg_next ht <;> simp

/-! ### The key and the commands of Config Control -/

@[simp] theorem State.armAll_cfg (s : State) : s.armAll.cfg = s.cfg := rfl

@[simp] theorem State.keyMatch_cfg (s : State) : s.keyMatch.cfg = s.cfg := by
  unfold State.keyMatch
  split <;> simp

@[simp] theorem State.resetCommand_cfg (s : State) : s.resetCommand.cfg = s.cfg := rfl

@[simp] theorem State.waitForKeyCommand_cfg (s : State) : s.waitForKeyCommand.cfg = s.cfg := rfl

@[simp] theorem State.resetCsnCommand_cfg (s : State) : s.resetCsnCommand.cfg = s.cfg := rfl

/-- A command that keeps the parameters keeps them whether or not its bit is set. -/
theorem State.onCommand_cfg {command : State → State} (h : ∀ s : State, (command s).cfg = s.cfg) (s : State)
    (bit : Bool) : (s.onCommand bit command).cfg = s.cfg := by
  cases bit
  · rfl
  · exact h s

/-! ### The operations with a meaning of their own -/

theorem execAw_keepsCfg (v : Byte) (s : State) : KeepsCfg s.cfg (execAw v s) := by
  refine operate_keepsCfg ?_
  split
  case isTrue => simp
  case isFalse =>
    split
    case isTrue => rw [keepsCfg_next]; split <;> simp
    case isFalse => simp

theorem execDwSetRdPort_keepsCfg (v : Byte) (s : State) : KeepsCfg s.cfg (execDwSetRdPort v s) :=
  operate_keepsCfg (by simp)

theorem execDwConfigControl_keepsCfg (v : Byte) (s : State) : KeepsCfg s.cfg (execDwConfigControl v s) :=
  operate_keepsCfg <| keepsCfg_next.mpr <| by
    rw [State.onCommand_cfg State.resetCsnCommand_cfg, State.onCommand_cfg State.waitForKeyCommand_cfg,
      State.onCommand_cfg State.resetCommand_cfg, State.clearOutputs_cfg]

theorem execDwWake_keepsCfg (v : Byte) (s : State) : KeepsCfg s.cfg (execDwWake v s) :=
  operate_keepsCfg (by simp)

theorem execDwCsn_keepsCfg (v : Byte) (s : State) : KeepsCfg s.cfg (execDwCsn v s) :=
  operate_keepsCfg (by split <;> simp)

theorem execDwLdn_keepsCfg (v : Byte) (s : State) : KeepsCfg s.cfg (execDwLdn v s) := by
  refine operate_keepsCfg ?_
  split
  next => simp
  next i c _ => split <;> simp

theorem execDwVendorCard_keepsCfg (reg v : Byte) (s : State) : KeepsCfg s.cfg (execDwVendorCard reg v s) :=
  operate_keepsCfg (by split <;> simp)

theorem execDwVendorLd_keepsCfg (reg v : Byte) (s : State) : KeepsCfg s.cfg (execDwVendorLd reg v s) :=
  operate_keepsCfg (by split <;> simp)

theorem execDrSerialIsolation_keepsCfg (s : State) : KeepsCfg s.cfg (execDrSerialIsolation s) :=
  dataRead_keepsCfg (by split <;> simp)

theorem execDrResourceData_keepsCfg (s : State) : KeepsCfg s.cfg (execDrResourceData s) := by
  refine dataRead_keepsCfg ?_
  split
  next => simp
  next i c _ => split <;> simp

theorem execDrStatus_keepsCfg (s : State) : KeepsCfg s.cfg (execDrStatus s) :=
  dataRead_keepsCfg (by simp)

theorem execDrCsn_keepsCfg (s : State) : KeepsCfg s.cfg (execDrCsn s) :=
  dataRead_keepsCfg (by split <;> simp)

theorem execDrLdn_keepsCfg (s : State) : KeepsCfg s.cfg (execDrLdn s) :=
  dataRead_keepsCfg (by split <;> simp)

theorem execDrVendorCard_keepsCfg (reg : Byte) (s : State) : KeepsCfg s.cfg (execDrVendorCard reg s) := by
  refine dataRead_keepsCfg ?_
  split
  next => simp
  next i c _ => exact vendorRead_keepsCfg s.clearOutputs i c _ reg

theorem execDrVendorLd_keepsCfg (reg : Byte) (s : State) : KeepsCfg s.cfg (execDrVendorLd reg s) := by
  refine dataRead_keepsCfg ?_
  split
  next => simp
  next ref c d _ => exact vendorRead_keepsCfg s.clearOutputs ref.card c _ reg

theorem execRc_keepsCfg (a : Port) (s : State) : KeepsCfg s.cfg (execRc a s) :=
  operate_keepsCfg (by split <;> simp)

theorem execAddCard_keepsCfg (rom : List Byte) (hooks : Hooks) (s : State) :
    KeepsCfg s.cfg (execAddCard rom hooks s) := by
  refine operate_keepsCfg ?_
  split
  case isTrue => simp
  case isFalse => split <;> simp

theorem execSetCsn_keepsCfg (card : BitVec 32) (csn : Byte) (s : State) :
    KeepsCfg s.cfg (execSetCsn card csn s) :=
  operate_keepsCfg (by split <;> simp)

/-- machine_init makes a fresh controller under the old parameters (log 21). -/
theorem execMachineInit_keepsCfg (s : State) : KeepsCfg s.cfg (execMachineInit s) :=
  keepsCfg_next.mpr s.initialised_cfg

theorem execMachineTeardown_keepsCfg (s : State) : KeepsCfg s.cfg (execMachineTeardown s) :=
  operate_keepsCfg (by simp)

/-! ### Every operation, every step -/

/-- No operation changes the parameters (log 2). -/
theorem exec_keepsCfg (i : Instr) (s : State) : KeepsCfg s.cfg (exec i s) := by
  cases i with
  | aw v => exact execAw_keepsCfg v s
  | dwSetRdPort v => exact execDwSetRdPort_keepsCfg v s
  | dwConfigControl v => exact execDwConfigControl_keepsCfg v s
  | dwWake v => exact execDwWake_keepsCfg v s
  | dwCsn v => exact execDwCsn_keepsCfg v s
  | dwLdn v => exact execDwLdn_keepsCfg v s
  | dwVendorCard reg v => exact execDwVendorCard_keepsCfg reg v s
  | dwVendorLd reg v => exact execDwVendorLd_keepsCfg reg v s
  | dwSerialIsolation | dwResourceData | dwStatus | dwUnrecognized => exact ignoredWrite_keepsCfg s
  | dwActivate v => exact writeDeviceReg_keepsCfg s activateReg (fun _ => activateBits v) true
  | dwIoRangeCheck v => exact writeDeviceReg_keepsCfg s rangeCheckReg (fun _ => rangeCheckBits v) false
  | dwGeneric reg v => exact writeDeviceReg_keepsCfg s reg (fun old => genericStored reg old v) true
  | drSetRdPort | drConfigControl | drWake | drUnrecognized => exact constantRead_keepsCfg s _
  | drActivate | drIoRangeCheck | drGeneric => exact readDeviceReg_keepsCfg s _
  | drSerialIsolation => exact execDrSerialIsolation_keepsCfg s
  | drResourceData => exact execDrResourceData_keepsCfg s
  | drStatus => exact execDrStatus_keepsCfg s
  | drCsn => exact execDrCsn_keepsCfg s
  | drLdn => exact execDrLdn_keepsCfg s
  | drVendorCard reg => exact execDrVendorCard_keepsCfg reg s
  | drVendorLd reg => exact execDrVendorLd_keepsCfg reg s
  | rc a => exact execRc_keepsCfg a s
  | addCard rom hooks => exact execAddCard_keepsCfg rom hooks s
  | setCsn card csn => exact execSetCsn_keepsCfg card csn s
  | machineInit => exact execMachineInit_keepsCfg s
  | machineTeardown => exact execMachineTeardown_keepsCfg s

/-- Settles O57: a step idles, serves an unclaimed access or runs an operation, and each keeps the parameters. -/
theorem stepKeepsTheParameters : Obligations.StepKeepsTheParameters := by
  intro s t h
  obtain ⟨_, rfl⟩ | ⟨r, rest, _, hserved⟩ := step_next h
  · rfl
  · have hkept : t.cfg = (s.withPending rest).cfg := by
      obtain hunclaimed | ⟨i, hexec⟩ := hserved
      · exact ignoredWrite_keepsCfg _ t hunclaimed
      · exact exec_keepsCfg i _ t hexec
    exact hkept.trans (s.withPending_cfg rest)

end Sys2Proof.Machine

/-! # Proofs: which access is which operation, what is refused or not claimed, what a read leaves (R62 to R69) -/

namespace Sys2Proof.Machine

/-! ### The records the routing builds, read back -/

theorem word16_split (a : Port) : word16 (a.extractLsb' 0 8) (a.extractLsb' 8 8) = a :=
  BitVec.extractLsb'_append_extractLsb'

theorem word32_split (w : BitVec 32) :
    word32 (w.extractLsb' 0 8) (w.extractLsb' 8 8) (w.extractLsb' 16 8) (w.extractLsb' 24 8) = w := by
  rw [word32,
    BitVec.extractLsb'_append_extractLsb'_eq_extractLsb' (start₂ := 24) (start₁ := 16) rfl,
    BitVec.extractLsb'_append_extractLsb'_eq_extractLsb' (start₂ := 16) (start₁ := 8) rfl]
  exact BitVec.extractLsb'_append_extractLsb'

theorem decode_addressWrite (reg v : Byte) : decode (record 0 reg [v]) = .ok (.aw v, []) := rfl

theorem decode_dataWrite (reg v : Byte) : decode (record 1 reg [v]) = .ok (decodeDataWrite reg v, []) := rfl

theorem decode_dataRead (reg : Byte) : decode (record 2 reg []) = .ok (decodeDataRead reg, []) := rfl

theorem decode_responderRead (reg : Byte) (a : Port) :
    decode (record 3 reg [a.extractLsb' 0 8, a.extractLsb' 8 8]) = .ok (.rc a, []) :=
  congrArg (fun b => Except.ok (Instr.rc b, [])) (word16_split a)

theorem encodeHooks_toNat_lt (h : Hooks) : (encodeHooks h).toNat < 16 := by
  obtain ⟨cfgCb, csnCb, vendorRead, vendorWrite⟩ := h
  revert cfgCb csnCb vendorRead vendorWrite
  decide

theorem decodeHooks_encodeHooks (h : Hooks) : decodeHooks (encodeHooks h) = h := by
  obtain ⟨cfgCb, csnCb, vendorRead, vendorWrite⟩ := h
  revert cfgCb csnCb vendorRead vendorWrite
  decide

theorem decode_encode_addCard (rom : List Byte) (hooks : Hooks) :
    decode (encode (.addCard rom hooks)) = .ok (.addCard rom hooks, []) :=
  calc decode (encode (.addCard rom hooks))
    _ = .ok (.addCard rom (decodeHooks (encodeHooks hooks)), []) := if_pos (encodeHooks_toNat_lt hooks)
    _ = .ok (.addCard rom hooks, []) := by rw [decodeHooks_encodeHooks]

theorem decode_encode_setCsn (card : BitVec 32) (csn : Byte) :
    decode (encode (.setCsn card csn)) = .ok (.setCsn card csn, []) :=
  congrArg (fun handle => Except.ok (Instr.setCsn handle csn, [])) (word32_split card)

/-! ### Where two claims meet -/

theorem isFixedPort_iff {s : State} {a : Port} :
    s.isFixedPort a = true ↔ a = s.cfg.addressPort ∨ a = s.cfg.writeDataPort := by
  simp only [State.isFixedPort, Bool.or_eq_true, beq_iff_eq]

theorem isFixedPort_eq_false_iff {s : State} {a : Port} :
    s.isFixedPort a = false ↔ a ≠ s.cfg.addressPort ∧ a ≠ s.cfg.writeDataPort := by
  rw [Bool.eq_false_iff, ne_eq, isFixedPort_iff, not_or]

theorem isReadPort_eq_false_iff {s : State} {a : Port} :
    s.isReadPort a = false ↔ s.readPort = 0 ∨ a ≠ s.readPort := by
  rw [Bool.eq_false_iff, ne_eq, isReadPort_iff, Decidable.not_and_iff_not_or_not, Decidable.not_not]

/-- A responder at the read-data port or at a fixed port is a claim too many. -/
theorem readOverlap_of_responder {s : State} {a : Port} (hresponds : s.isResponderPort a = true)
    (hclaim : s.isReadPort a = true ∨ s.isFixedPort a = true) : s.readOverlap a = true := by
  obtain hread | hfixed := hclaim
  · simp [State.readOverlap, hresponds, hread]
  · simp [State.readOverlap, hresponds, hfixed]

theorem readOverlap_of_readPort_fixed {s : State} {a : Port} (hread : s.isReadPort a = true)
    (hfixed : s.isFixedPort a = true) : s.readOverlap a = true := by
  simp [State.readOverlap, hread, hfixed]

/-- The read-data port away from the fixed ports and the responders has one claim. -/
theorem readOverlap_eq_false_of_readPort {s : State} {a : Port} (hfixed : s.isFixedPort a = false)
    (hnone : s.isResponderPort a = false) : s.readOverlap a = false := by
  simp [State.readOverlap, hfixed, hnone]

/-- Elsewhere only a responder at a fixed port makes two claims. -/
theorem readOverlap_eq_false_of_elsewhere {s : State} {a : Port} (hread : s.isReadPort a = false)
    (hclaim : s.isFixedPort a = false ∨ s.isResponderPort a = false) : s.readOverlap a = false := by
  obtain hfixed | hnone := hclaim
  · simp [State.readOverlap, hread, hfixed]
  · simp [State.readOverlap, hread, hnone]

/-! ### Where an access goes -/

/-- The routing does not look at the queue. -/
theorem route_withPending (s : State) (rest : List Request) (r : Request) :
    route (s.withPending rest) r = route s r := by
  cases r <;> rfl

theorem routeWrite_addressPort {s : State} (hports : s.cfg.addressPort ≠ s.cfg.writeDataPort) (v : Byte) :
    routeWrite s s.cfg.addressPort v = .operation (record 0 s.reg [v]) := by
  rw [routeWrite, if_pos rfl, if_neg hports]

theorem routeWrite_writeDataPort {s : State} (hports : s.cfg.addressPort ≠ s.cfg.writeDataPort) (v : Byte) :
    routeWrite s s.cfg.writeDataPort v = .operation (record 1 s.reg [v]) := by
  rw [routeWrite, if_neg hports.symm, if_pos rfl]

theorem routeWrite_coinciding {s : State} (hports : s.cfg.addressPort = s.cfg.writeDataPort) (v : Byte) :
    routeWrite s s.cfg.addressPort v = .stop (.portOverlap s.cfg.addressPort) := by
  rw [routeWrite, if_pos rfl, if_pos hports]

theorem routeWrite_elsewhere {s : State} {a : Port} (haddress : a ≠ s.cfg.addressPort)
    (hdata : a ≠ s.cfg.writeDataPort) (v : Byte) : routeWrite s a v = .unclaimed := by
  rw [routeWrite, if_neg haddress, if_neg hdata]

theorem routeRead_overlap {s : State} {a : Port} (hoverlap : s.readOverlap a = true) :
    routeRead s a = .stop (.portOverlap a) := if_pos hoverlap

theorem routeRead_readPort {s : State} {a : Port} (hoverlap : s.readOverlap a = false)
    (hread : s.isReadPort a = true) : routeRead s a = .operation (record 2 s.reg []) := by
  simp only [routeRead, hoverlap, hread, Bool.false_eq_true, if_false, if_true]

theorem routeRead_elsewhere {s : State} {a : Port} (hoverlap : s.readOverlap a = false)
    (hread : s.isReadPort a = false) :
    routeRead s a = .operation (record 3 s.reg [a.extractLsb' 0 8, a.extractLsb' 8 8]) := by
  simp only [routeRead, hoverlap, hread, Bool.false_eq_true, if_false]

/-- A wide access covers a port of the block when one of its bytes does (R66). -/
theorem wideOffsets_any_isBlockPort_iff {s : State} {width : WideWidth} {a : Port} :
    ((wideOffsets width).any fun k => s.isBlockPort (a + k)) = true ↔ ∃ k ∈ wideOffsets width, s.PortAt (a + k) := by
  simp only [List.any_eq_true, isBlockPort_iff]

theorem routeWide_covering {s : State} {width : WideWidth} {a : Port}
    (h : ∃ k ∈ wideOffsets width, s.PortAt (a + k)) : routeWide s width a = .stop (.wideAccess a) :=
  if_pos (wideOffsets_any_isBlockPort_iff.mpr h)

theorem routeWide_clear {s : State} {width : WideWidth} {a : Port}
    (h : ∀ k ∈ wideOffsets width, ¬ s.PortAt (a + k)) : routeWide s width a = .unclaimed :=
  if_neg fun hany =>
    have ⟨k, hk, hport⟩ := wideOffsets_any_isBlockPort_iff.mp hany
    h k hk hport

/-! ### Accesses nobody answers -/

/-- What a live controller does not claim changes nothing but the outputs (log 6). -/
theorem unclaimedAccess_live {s : State} (hlive : s.Live) : unclaimedAccess s = .next s.clearOutputs :=
  ignoredWrite_live hlive.1 hlive.2

/-- A range-check read nobody answers changes nothing but the outputs (R63; log 6). -/
theorem execRc_unanswered {s : State} {a : Port} (hlive : s.Live) (hnone : s.NoneRespondsAt a) :
    execRc a s = .next s.clearOutputs := by
  have hresponder : s.clearOutputs.responder a = none := responder_eq_none_iff.mpr hnone
  rw [execRc, operate_live hlive.1 hlive.2, hresponder, dropped_eq]

/-! ### The step, by the route of the oldest access -/

section StepByRoute

variable {s : State} {r : Request} {rest : List Request}

theorem step_idle (hp : s.pending = []) : step s = .next s := by
  simp only [step, hp]

theorem step_pending (hp : s.pending = r :: rest) : step s = serve r (s.withPending rest) := by
  simp only [step, hp]

theorem step_operation {bytes tail : List Byte} {i : Instr} (hp : s.pending = r :: rest)
    (hroute : route s r = .operation bytes) (hdecode : decode bytes = .ok (i, tail)) :
    step s = exec i (s.withPending rest) := by
  rw [step_pending hp]
  simp only [serve, route_withPending, hroute, runRecord, hdecode]

theorem step_stop {why : Refusal} (hp : s.pending = r :: rest) (hroute : route s r = .stop why) :
    step s = .refused why := by
  rw [step_pending hp]
  simp only [serve, route_withPending, hroute]

theorem step_unclaimed (hlive : s.Live) (hp : s.pending = r :: rest) (hroute : route s r = .unclaimed) :
    step s = .next (s.withPending rest).clearOutputs := by
  rw [step_pending hp]
  simp only [serve, route_withPending, hroute]
  exact unclaimedAccess_live hlive

/-- A read away from the read-data port is the responders' (R94), unless one of them stands at a fixed port. -/
theorem step_read_elsewhere {a : Port} (hread : s.readPort = 0 ∨ a ≠ s.readPort)
    (hclaim : (a ≠ s.cfg.addressPort ∧ a ≠ s.cfg.writeDataPort) ∨ s.NoneRespondsAt a)
    (hp : s.pending = .read a :: rest) : step s = exec (.rc a) (s.withPending rest) :=
  have hnotRead := isReadPort_eq_false_iff.mpr hread
  have hoverlap := readOverlap_eq_false_of_elsewhere hnotRead
    (hclaim.imp isFixedPort_eq_false_iff.mpr isResponderPort_eq_false_iff.mpr)
  step_operation hp (routeRead_elsewhere hoverlap hnotRead) (decode_responderRead s.reg a)

end StepByRoute

/-- Settles O5: the routing is the same with and without the served access in the queue. -/
theorem stepRunsTheDecodedOperation : Obligations.StepRunsTheDecodedOperation := by
  intro s r rest bytes i tail hp hroute hdecode
  rw [route_withPending] at hroute
  exact step_operation hp hroute hdecode

/-- Settles O6: each access is routed to a record that decodes to its operation. -/
theorem accessesSelectTheirOperation : Obligations.AccessesSelectTheirOperation := by
  intro s rest
  refine ⟨?addressWrite, ?dataWrite, ?dataRead, ?otherRead, ?addCard, ?setCsn, ?machineInit, ?machineTeardown⟩
  case addressWrite =>
    intro v hports hp
    exact step_operation hp (routeWrite_addressPort hports v) (decode_addressWrite s.reg v)
  case dataWrite =>
    intro v hports hp
    exact step_operation hp (routeWrite_writeDataPort hports v) (decode_dataWrite s.reg v)
  case dataRead =>
    intro hmapped haddress hdata hnone hp
    have hoverlap := readOverlap_eq_false_of_readPort (isFixedPort_eq_false_iff.mpr ⟨haddress, hdata⟩)
      (isResponderPort_eq_false_iff.mpr hnone)
    exact step_operation hp (routeRead_readPort hoverlap (isReadPort_iff.mpr ⟨hmapped, rfl⟩)) (decode_dataRead s.reg)
  case otherRead =>
    intro a hread hclaim hp
    exact step_read_elsewhere hread hclaim hp
  case addCard =>
    intro rom hooks hp
    exact step_operation hp rfl (decode_encode_addCard rom hooks)
  case setCsn =>
    intro card csn hp
    exact step_operation hp rfl (decode_encode_setCsn card csn)
  case machineInit =>
    intro hp
    exact step_operation hp rfl rfl
  case machineTeardown =>
    intro hp
    exact step_operation hp rfl rfl

/-- Settles O7: overlapping claims and wide accesses over a port are routed to a stop. -/
theorem ambiguousAndWideAccessesAreRefused : Obligations.AmbiguousAndWideAccessesAreRefused := by
  intro s rest
  refine ⟨?responder, ?readPortFixed, ?fixedPorts, ?wide⟩
  case responder =>
    intro a hresponds hclaim hp
    have hoverlap := readOverlap_of_responder (isResponderPort_iff.mpr hresponds)
      (hclaim.imp isReadPort_iff.mpr isFixedPort_iff.mpr)
    exact step_stop hp (routeRead_overlap hoverlap)
  case readPortFixed =>
    intro hmapped hfixed hp
    have hoverlap := readOverlap_of_readPort_fixed (isReadPort_iff.mpr ⟨hmapped, rfl⟩) (isFixedPort_iff.mpr hfixed)
    exact step_stop hp (routeRead_overlap hoverlap)
  case fixedPorts =>
    intro v hports hp
    exact step_stop hp (routeWrite_coinciding hports v)
  case wide =>
    intro dir width a k hk hport hp
    exact step_stop hp (routeWide_covering ⟨k, hk, hport⟩)

/-- Settles O8: such an access is routed nowhere, or to the responders, of which none answers. -/
theorem unclaimedAccessesChangeNothing : Obligations.UnclaimedAccessesChangeNothing := by
  intro s rest
  refine ⟨step_idle, ?write, ?read, ?wide⟩
  case write =>
    intro a v hlive haddress hdata hp
    exact step_unclaimed hlive hp (routeWrite_elsewhere haddress hdata v)
  case read =>
    intro a hlive hread hnone hp
    calc step s
      _ = execRc a (s.withPending rest) := step_read_elsewhere hread (.inr hnone) hp
      _ = .next (s.withPending rest).clearOutputs := execRc_unanswered hlive hnone
  case wide =>
    intro dir width a hlive hclear hp
    exact step_unclaimed hlive hp (routeWide_clear hclear)

/-! ### Results that leave everything but the reply -/

/-- If the result is a next state, it is `s` with the outputs of one reply at most. -/
def OnlyReplies (s : State) (r : Result) : Prop := ∀ t, r = .next t → t = { s.clearOutputs with ret := t.ret }

@[simp] theorem onlyReplies_unanswered (s : State) : OnlyReplies s (.next s.clearOutputs) := by
  rintro _ ⟨⟩
  rfl

@[simp] theorem onlyReplies_reply (s : State) (b : Reply) : OnlyReplies s (.next (s.clearOutputs.reply b)) := by
  rintro _ ⟨⟩
  rfl

theorem operate_onlyReplies {s : State} {body : State → Result} (h : OnlyReplies s (body s.clearOutputs)) :
    OnlyReplies s (operate s body) := fun t ht =>
  have ⟨_, _, hbody⟩ := operate_next ht
  h t hbody

theorem dataRead_onlyReplies {s : State} {body : State → Result} (h : OnlyReplies s (body s.clearOutputs)) :
    OnlyReplies s (dataRead s body) := fun t ht => by
  obtain ⟨_, _, ⟨_, rfl⟩ | ⟨_, hbody⟩⟩ := dataRead_next ht
  · rfl
  · exact h t hbody

theorem constantRead_onlyReplies (s : State) (b : Byte) : OnlyReplies s (constantRead s b) :=
  dataRead_onlyReplies (by simp)

theorem readDeviceReg_onlyReplies (s : State) (r : Byte) : OnlyReplies s (readDeviceReg s r) :=
  dataRead_onlyReplies (by split <;> simp)

theorem execDrStatus_onlyReplies (s : State) : OnlyReplies s (execDrStatus s) :=
  dataRead_onlyReplies (by simp)

theorem execDrCsn_onlyReplies (s : State) : OnlyReplies s (execDrCsn s) :=
  dataRead_onlyReplies (by split <;> simp)

theorem execDrLdn_onlyReplies (s : State) : OnlyReplies s (execDrLdn s) :=
  dataRead_onlyReplies (by split <;> simp)

theorem execRc_onlyReplies (a : Port) (s : State) : OnlyReplies s (execRc a s) :=
  operate_onlyReplies (by split <;> simp)

/-- Settles O51: these reads answer a byte or nothing. -/
theorem otherReadsChangeNothing : Obligations.OtherReadsChangeNothing := by
  intro i s t hnext hread
  have honly : OnlyReplies s (exec i s) := by
    obtain rfl | rfl | rfl | rfl | rfl | rfl | ⟨r, rfl⟩ | rfl | rfl | ⟨r, rfl⟩ | ⟨a, rfl⟩ := hread
    · exact constantRead_onlyReplies s readSentinel
    · exact constantRead_onlyReplies s readSentinel
    · exact constantRead_onlyReplies s readSentinel
    · exact execDrStatus_onlyReplies s
    · exact execDrCsn_onlyReplies s
    · exact execDrLdn_onlyReplies s
    · exact constantRead_onlyReplies s readSentinel
    · exact readDeviceReg_onlyReplies s activateReg
    · exact readDeviceReg_onlyReplies s rangeCheckReg
    · exact readDeviceReg_onlyReplies s r
    · exact execRc_onlyReplies a s
  exact honly t hnext

end Sys2Proof.Machine

/-! # Proofs: encoder and decoder undo each other, and the opcode table has one row per selector (R95 to R97) -/

namespace Sys2Proof

open Sys2Proof.Machine Sys2Proof.Laws

/-! ### The classes of register indices -/

/-- The indices of a class, block by block as R95 lists them. -/
def RegClass.Covers : RegClass → Byte → Prop
  | .setRdPort, r => r = 0x00
  | .serialIsolation, r => r = 0x01
  | .configControl, r => r = 0x02
  | .wake, r => r = 0x03
  | .resourceData, r => r = 0x04
  | .status, r => r = 0x05
  | .csn, r => r = 0x06
  | .ldn, r => r = 0x07
  | .unrecognized, r => isUnrecognizedIndex r = true
  | .vendorCard, r => isVendorCardIndex r = true
  | .activate, r => r = 0x30
  | .ioRangeCheck, r => r = 0x31
  | .generic, r => isGenericIndex r = true
  | .vendorLd, r => isVendorLdIndex r = true

theorem inBlock_iff {lo hi : Nat} {r : Byte} : inBlock lo hi r = true ↔ lo ≤ r.toNat ∧ r.toNat ≤ hi := by
  simp [inBlock]

theorem isUnrecognizedIndex_iff {r : Byte} : isUnrecognizedIndex r = true ↔ 0x08 ≤ r.toNat ∧ r.toNat ≤ 0x1F :=
  inBlock_iff

theorem isVendorCardIndex_iff {r : Byte} : isVendorCardIndex r = true ↔ 0x20 ≤ r.toNat ∧ r.toNat ≤ 0x2F :=
  inBlock_iff

theorem isVendorLdIndex_iff {r : Byte} : isVendorLdIndex r = true ↔
    (0x38 ≤ r.toNat ∧ r.toNat ≤ 0x3F) ∨ (0xF0 ≤ r.toNat ∧ r.toNat ≤ 0xFE) := by
  simp only [isVendorLdIndex, Bool.or_eq_true, inBlock_iff]

theorem isGenericIndex_iff {r : Byte} : isGenericIndex r = true ↔
    (0x32 ≤ r.toNat ∧ r.toNat ≤ 0x37) ∨ (0x40 ≤ r.toNat ∧ r.toNat ≤ 0xEF) ∨ r.toNat = 0xFF := by
  simp only [isGenericIndex, Bool.or_eq_true, inBlock_iff]
  omega

theorem RegClass.covers_regClass (r : Byte) : (regClass r).Covers r := by
  fun_cases regClass r
  case case9 | case10 | case13 | case14 | case15 | case16 | case17 =>
    simp only [RegClass.Covers, isUnrecognizedIndex_iff, isVendorCardIndex_iff, isVendorLdIndex_iff,
      isGenericIndex_iff]
    omega
  all_goals exact BitVec.eq_of_toNat_eq ‹_›

theorem regClass_eq_of_covers {k : RegClass} {r : Byte} (h : k.Covers r) : regClass r = k := by
  match k, h with
  | .setRdPort, rfl | .serialIsolation, rfl | .configControl, rfl | .wake, rfl | .resourceData, rfl | .status, rfl
  | .csn, rfl | .ldn, rfl | .activate, rfl | .ioRangeCheck, rfl => rfl
  | .unrecognized, h =>
    obtain ⟨hlo, hhi⟩ := isUnrecognizedIndex_iff.mp h
    simp (disch := omega) only [regClass, if_neg, if_pos]
  | .vendorCard, h =>
    obtain ⟨hlo, hhi⟩ := isVendorCardIndex_iff.mp h
    simp (disch := omega) only [regClass, if_neg, if_pos]
  | .generic, h =>
    obtain ⟨hlo, hhi⟩ | ⟨hlo, hhi⟩ | hlast := isGenericIndex_iff.mp h <;>
      simp (disch := omega) only [regClass, if_neg, if_pos]
  | .vendorLd, h =>
    obtain ⟨hlo, hhi⟩ | ⟨hlo, hhi⟩ := isVendorLdIndex_iff.mp h <;>
      simp (disch := omega) only [regClass, if_neg, if_pos]

/-! ### The DATA operation of a class -/

/-- The DATA write a class stands for. -/
def RegClass.dataWrite (reg v : Byte) : RegClass → Instr
  | .setRdPort => .dwSetRdPort v
  | .serialIsolation => .dwSerialIsolation v
  | .configControl => .dwConfigControl v
  | .wake => .dwWake v
  | .resourceData => .dwResourceData v
  | .status => .dwStatus v
  | .csn => .dwCsn v
  | .ldn => .dwLdn v
  | .unrecognized => .dwUnrecognized reg v
  | .vendorCard => .dwVendorCard reg v
  | .activate => .dwActivate v
  | .ioRangeCheck => .dwIoRangeCheck v
  | .generic => .dwGeneric reg v
  | .vendorLd => .dwVendorLd reg v

/-- The DATA read a class stands for. -/
def RegClass.dataRead (reg : Byte) : RegClass → Instr
  | .setRdPort => .drSetRdPort
  | .serialIsolation => .drSerialIsolation
  | .configControl => .drConfigControl
  | .wake => .drWake
  | .resourceData => .drResourceData
  | .status => .drStatus
  | .csn => .drCsn
  | .ldn => .drLdn
  | .unrecognized => .drUnrecognized reg
  | .vendorCard => .drVendorCard reg
  | .activate => .drActivate
  | .ioRangeCheck => .drIoRangeCheck
  | .generic => .drGeneric reg
  | .vendorLd => .drVendorLd reg

theorem decodeDataWrite_eq (reg v : Byte) : decodeDataWrite reg v = (regClass reg).dataWrite reg v := rfl

theorem decodeDataRead_eq (reg : Byte) : decodeDataRead reg = (regClass reg).dataRead reg := rfl

section Covered
variable {k : RegClass} {reg : Byte}

theorem decodeDataWrite_of_covers (h : k.Covers reg) (v : Byte) : decodeDataWrite reg v = k.dataWrite reg v := by
  rw [decodeDataWrite_eq, regClass_eq_of_covers h]

theorem decodeDataRead_of_covers (h : k.Covers reg) : decodeDataRead reg = k.dataRead reg := by
  rw [decodeDataRead_eq, regClass_eq_of_covers h]

theorem RegClass.dataWrite_record (h : k.Covers reg) (v : Byte) :
    (k.dataWrite reg v).wellFormed = true ∧ encode (k.dataWrite reg v) = record 1 reg [v] := by
  match k, h with
  | .setRdPort, rfl | .serialIsolation, rfl | .configControl, rfl | .wake, rfl | .resourceData, rfl | .status, rfl
  | .csn, rfl | .ldn, rfl | .activate, rfl | .ioRangeCheck, rfl => exact ⟨rfl, rfl⟩
  | .unrecognized, h | .vendorCard, h | .generic, h | .vendorLd, h => exact ⟨h, rfl⟩

theorem RegClass.dataRead_record (h : k.Covers reg) :
    (k.dataRead reg).wellFormed = true ∧ encode (k.dataRead reg) = record 2 reg [] := by
  match k, h with
  | .setRdPort, rfl | .serialIsolation, rfl | .configControl, rfl | .wake, rfl | .resourceData, rfl | .status, rfl
  | .csn, rfl | .ldn, rfl | .activate, rfl | .ioRangeCheck, rfl => exact ⟨rfl, rfl⟩
  | .unrecognized, h | .vendorCard, h | .generic, h | .vendorLd, h => exact ⟨h, rfl⟩

theorem decode_encode_dataWrite (h : k.Covers reg) (v : Byte) :
    decode (encode (k.dataWrite reg v)) = .ok (k.dataWrite reg v, []) := by
  obtain ⟨-, hrecord⟩ := RegClass.dataWrite_record h v
  rw [hrecord, decode_dataWrite, decodeDataWrite_of_covers h]

theorem decode_encode_dataRead (h : k.Covers reg) :
    decode (encode (k.dataRead reg)) = .ok (k.dataRead reg, []) := by
  obtain ⟨-, hrecord⟩ := RegClass.dataRead_record h
  rw [hrecord, decode_dataRead, decodeDataRead_of_covers h]

end Covered

/-- Settles O1: a DATA operation through the class that covers its index, every other one through its own operands. -/
theorem decodeOfEncodeIsTheOperation : Obligations.DecodeOfEncodeIsTheOperation := by
  intro i hwf
  cases i with
  | aw v => exact decode_addressWrite 0 v
  | dwSetRdPort v => exact decode_encode_dataWrite (k := .setRdPort) rfl v
  | dwSerialIsolation v => exact decode_encode_dataWrite (k := .serialIsolation) rfl v
  | dwConfigControl v => exact decode_encode_dataWrite (k := .configControl) rfl v
  | dwWake v => exact decode_encode_dataWrite (k := .wake) rfl v
  | dwResourceData v => exact decode_encode_dataWrite (k := .resourceData) rfl v
  | dwStatus v => exact decode_encode_dataWrite (k := .status) rfl v
  | dwCsn v => exact decode_encode_dataWrite (k := .csn) rfl v
  | dwLdn v => exact decode_encode_dataWrite (k := .ldn) rfl v
  | dwUnrecognized reg v => exact decode_encode_dataWrite (k := .unrecognized) hwf v
  | dwVendorCard reg v => exact decode_encode_dataWrite (k := .vendorCard) hwf v
  | dwActivate v => exact decode_encode_dataWrite (k := .activate) rfl v
  | dwIoRangeCheck v => exact decode_encode_dataWrite (k := .ioRangeCheck) rfl v
  | dwGeneric reg v => exact decode_encode_dataWrite (k := .generic) hwf v
  | dwVendorLd reg v => exact decode_encode_dataWrite (k := .vendorLd) hwf v
  | drSetRdPort => exact decode_encode_dataRead (k := .setRdPort) rfl
  | drSerialIsolation => exact decode_encode_dataRead (k := .serialIsolation) rfl
  | drConfigControl => exact decode_encode_dataRead (k := .configControl) rfl
  | drWake => exact decode_encode_dataRead (k := .wake) rfl
  | drResourceData => exact decode_encode_dataRead (k := .resourceData) rfl
  | drStatus => exact decode_encode_dataRead (k := .status) rfl
  | drCsn => exact decode_encode_dataRead (k := .csn) rfl
  | drLdn => exact decode_encode_dataRead (k := .ldn) rfl
  | drUnrecognized reg => exact decode_encode_dataRead (k := .unrecognized) hwf
  | drVendorCard reg => exact decode_encode_dataRead (k := .vendorCard) hwf
  | drActivate => exact decode_encode_dataRead (k := .activate) rfl
  | drIoRangeCheck => exact decode_encode_dataRead (k := .ioRangeCheck) rfl
  | drGeneric reg => exact decode_encode_dataRead (k := .generic) hwf
  | drVendorLd reg => exact decode_encode_dataRead (k := .vendorLd) hwf
  | rc a => exact decode_responderRead 0 a
  | addCard rom hooks => exact decode_encode_addCard rom hooks
  | setCsn card csn => exact decode_encode_setCsn card csn
  | machineInit => rfl
  | machineTeardown => rfl

/-- Settles O2: the decoder selects the class that covers the index, whose record has that index again. -/
theorem everyIndexDecodesToItsOwnRecord : Obligations.EveryIndexDecodesToItsOwnRecord := fun reg v =>
  ⟨RegClass.dataWrite_record (RegClass.covers_regClass reg) v, RegClass.dataRead_record (RegClass.covers_regClass reg)⟩

/-! ### The record of a selector -/

theorem leBytes_byte (n w : Nat) (b : Byte) : leBytes (n + 1) (w * 256 + b.toNat) = b :: leBytes n w := by
  have hlow : BitVec.ofNat 8 (w * 256 + b.toNat) = b := by
    apply BitVec.eq_of_toNat_eq
    rw [BitVec.toNat_ofNat]
    omega
  have hrest : (w * 256 + b.toNat) / 256 = w := by omega
  rw [leBytes, hlow, hrest]

theorem selector_toNat (cls : BitVec 3) (reg : Byte) : (cls ++ reg).toNat = cls.toNat * 256 + reg.toNat := by
  rw [BitVec.toNat_append, ← Nat.shiftLeft_add_eq_or_of_lt reg.isLt, Nat.shiftLeft_eq]

theorem tableRecord_selector (cls : BitVec 3) (reg : Byte) :
    tableRecord 16 (cls ++ reg).toNat = record (cls.setWidth 8) reg (leBytes 10 0) := by
  have hcls : cls.toNat = 0 * 256 + (cls.setWidth 8).toNat := by
    rw [BitVec.toNat_setWidth]
    omega
  calc tableRecord 16 (cls ++ reg).toNat
    _ = leBytes 12 (cls.toNat * 256 + reg.toNat) := by
      rw [tableRecord, Nat.mod_eq_of_lt (by omega), selector_toNat, tableRecordLen]
    _ = reg :: leBytes 11 (0 * 256 + (cls.setWidth 8).toNat) := by rw [leBytes_byte, ← hcls]
    _ = record (cls.setWidth 8) reg (leBytes 10 0) := by rw [leBytes_byte, record]

theorem decodeTableWord_selector {cls : BitVec 3} {reg : Byte} {i : Instr} {rest : List Byte}
    (h : decode (record (cls.setWidth 8) reg (leBytes 10 0)) = .ok (i, rest)) :
    decodeTableWord 16 (cls ++ reg).toNat = some i := by
  rw [decodeTableWord, tableRecord_selector, h]

theorem decodeTableWord_dataWrite {k : RegClass} {reg : Byte} (h : k.Covers reg) :
    decodeTableWord 16 (1#3 ++ reg).toNat = some (k.dataWrite reg 0) := by
  rw [← decodeDataWrite_of_covers h]
  exact decodeTableWord_selector rfl

theorem decodeTableWord_dataRead {k : RegClass} {reg : Byte} (h : k.Covers reg) :
    decodeTableWord 16 (2#3 ++ reg).toNat = some (k.dataRead reg) := by
  rw [← decodeDataRead_of_covers h]
  exact decodeTableWord_selector rfl

/-- Settles O4: each word is a class and an index, and the index lies in the block of its class. -/
theorem sampleSelectorsDecode : Obligations.SampleSelectorsDecode :=
  ⟨decodeTableWord_selector (cls := 0) (reg := 0x5A) rfl,
    decodeTableWord_dataWrite (k := .wake) (reg := 0x03) rfl,
    decodeTableWord_dataWrite (k := .generic) (reg := 0x42) rfl,
    decodeTableWord_dataWrite (k := .vendorLd) (reg := 0xFE) rfl,
    decodeTableWord_dataWrite (k := .generic) (reg := 0xFF) rfl,
    decodeTableWord_dataRead (k := .serialIsolation) (reg := 0x01) rfl,
    decodeTableWord_dataRead (k := .unrecognized) (reg := 0x1F) rfl,
    decodeTableWord_dataRead (k := .vendorCard) (reg := 0x20) rfl,
    decodeTableWord_selector (cls := 3) (reg := 0x00) rfl,
    decodeTableWord_selector (cls := 6) (reg := 0x00) rfl,
    rfl⟩

/-! ### Some row of the opcode table applies -/

theorem RegClass.dataWrite_selectorMatches (reg v : Byte) :
    ∀ k : RegClass, SelectorMatches.Statement (k.dataWrite reg v)
  | .setRdPort => SelectorMatches.dwSetRdPort v
  | .serialIsolation => SelectorMatches.dwSerialIsolation v
  | .configControl => SelectorMatches.dwConfigControl v
  | .wake => SelectorMatches.dwWake v
  | .resourceData => SelectorMatches.dwResourceData v
  | .status => SelectorMatches.dwStatus v
  | .csn => SelectorMatches.dwCsn v
  | .ldn => SelectorMatches.dwLdn v
  | .unrecognized => SelectorMatches.dwUnrecognized reg v
  | .vendorCard => SelectorMatches.dwVendorCard reg v
  | .activate => SelectorMatches.dwActivate v
  | .ioRangeCheck => SelectorMatches.dwIoRangeCheck v
  | .generic => SelectorMatches.dwGeneric reg v
  | .vendorLd => SelectorMatches.dwVendorLd reg v

theorem RegClass.dataRead_selectorMatches (reg : Byte) :
    ∀ k : RegClass, SelectorMatches.Statement (k.dataRead reg)
  | .setRdPort => SelectorMatches.drSetRdPort
  | .serialIsolation => SelectorMatches.drSerialIsolation
  | .configControl => SelectorMatches.drConfigControl
  | .wake => SelectorMatches.drWake
  | .resourceData => SelectorMatches.drResourceData
  | .status => SelectorMatches.drStatus
  | .csn => SelectorMatches.drCsn
  | .ldn => SelectorMatches.drLdn
  | .unrecognized => SelectorMatches.drUnrecognized reg
  | .vendorCard => SelectorMatches.drVendorCard reg
  | .activate => SelectorMatches.drActivate
  | .ioRangeCheck => SelectorMatches.drIoRangeCheck
  | .generic => SelectorMatches.drGeneric reg
  | .vendorLd => SelectorMatches.drVendorLd reg

/-- A row that fixes the class alone matches every register index. -/
theorem rowMatches_of_classRow {mnemonic : String} {cls : BitVec 3}
    (h : ⟨mnemonic, cls ++ 0x00#8, 0x700⟩ ∈ selectorRows) (reg : Byte) :
    SelectorMatches.rowMatches mnemonic (cls ++ reg) = true := by
  have happlies : (cls ++ reg) &&& (7#3 ++ 0x00#8) = cls ++ 0x00#8 := by
    rw [BitVec.and_append, BitVec.and_zero, show (7#3) = BitVec.allOnes 3 from rfl, BitVec.and_allOnes]
  exact List.any_eq_true.mpr ⟨_, h, Bool.and_eq_true_iff.mpr ⟨beq_self_eq_true mnemonic, beq_iff_eq.mpr happlies⟩⟩

/-- The operation read from the selector has a row of its mnemonic that applies. -/
def HasOwnRow (sel : Selector) : Prop :=
  ∃ i, decodeTableWord 16 sel.toNat = some i ∧ SelectorMatches.rowMatches (mnemonicOf i) sel = true

theorem hasOwnRow_of_classRow {cls : BitVec 3} {reg : Byte} {i : Instr} {rest : List Byte}
    (hdecode : decode (record (cls.setWidth 8) reg (leBytes 10 0)) = .ok (i, rest))
    (hrow : ⟨mnemonicOf i, cls ++ 0x00#8, 0x700⟩ ∈ selectorRows) : HasOwnRow (cls ++ reg) :=
  ⟨i, decodeTableWord_selector hdecode, rowMatches_of_classRow hrow reg⟩

theorem hasOwnRow_dataWrite (reg : Byte) : HasOwnRow (1#3 ++ reg) := by
  have hcovers := RegClass.covers_regClass reg
  obtain ⟨hwf, hrecord⟩ := RegClass.dataWrite_record hcovers 0
  have hrow := RegClass.dataWrite_selectorMatches reg 0 _ hwf
  rw [hrecord] at hrow
  exact ⟨_, decodeTableWord_dataWrite hcovers, hrow⟩

theorem hasOwnRow_dataRead (reg : Byte) : HasOwnRow (2#3 ++ reg) := by
  have hcovers := RegClass.covers_regClass reg
  obtain ⟨hwf, hrecord⟩ := RegClass.dataRead_record hcovers
  have hrow := RegClass.dataRead_selectorMatches reg _ hwf
  rw [hrecord] at hrow
  exact ⟨_, decodeTableWord_dataRead hcovers, hrow⟩

theorem exists_class_index (sel : Selector) : ∃ (cls : BitVec 3) (reg : Byte), sel = cls ++ reg :=
  ⟨_, _, (BitVec.extractLsb'_append_extractLsb' (w := 3) (len := 8) (x := sel)).symm⟩

theorem class_cases : ∀ cls : BitVec 3,
    cls = 0 ∨ cls = 1 ∨ cls = 2 ∨ cls = 3 ∨ cls = 4 ∨ cls = 5 ∨ cls = 6 ∨ cls = 7 := by
  decide

theorem hasOwnRow (sel : Selector) : HasOwnRow sel := by
  obtain ⟨cls, reg, rfl⟩ := exists_class_index sel
  obtain rfl | rfl | rfl | rfl | rfl | rfl | rfl | rfl := class_cases cls
  · exact hasOwnRow_of_classRow (i := .aw 0) rfl (by decide)
  · exact hasOwnRow_dataWrite reg
  · exact hasOwnRow_dataRead reg
  · exact hasOwnRow_of_classRow (i := .rc 0) rfl (by decide)
  · exact hasOwnRow_of_classRow (i := .addCard (leBytes 9 0) (decodeHooks 0)) rfl (by decide)
  · exact hasOwnRow_of_classRow (i := .setCsn 0 0) rfl (by decide)
  · exact hasOwnRow_of_classRow (i := .machineInit) rfl (by decide)
  · exact hasOwnRow_of_classRow (i := .machineTeardown) rfl (by decide)

/-! ### At most one row applies -/

theorem SelectorRow.applies_iff {row : SelectorRow} {sel : Selector} :
    row.applies sel = true ↔ sel &&& row.mask = row.pattern :=
  beq_iff_eq

/-- Under the mask of both rows a selector they share would have both patterns. -/
theorem SelectorRow.pattern_and_mask_eq {a b : SelectorRow} {sel : Selector} (ha : a.applies sel = true)
    (hb : b.applies sel = true) : a.pattern &&& b.mask = b.pattern &&& a.mask := by
  rw [← SelectorRow.applies_iff.mp ha, ← SelectorRow.applies_iff.mp hb, BitVec.and_assoc, BitVec.and_assoc,
    BitVec.and_comm a.mask]

theorem selectorRows_pairwise_distinguished :
    selectorRows.Pairwise fun a b => a.pattern &&& b.mask ≠ b.pattern &&& a.mask := by
  decide

theorem selectorRows_pairwise_disjoint (sel : Selector) :
    selectorRows.Pairwise fun a b => ¬ (a.applies sel = true ∧ b.applies sel = true) :=
  selectorRows_pairwise_distinguished.imp fun hdiffer ⟨ha, hb⟩ =>
    hdiffer (SelectorRow.pattern_and_mask_eq ha hb)

/-- Of a list no two of whose members meet `p`, the filter keeps the one that does. -/
theorem filter_eq_singleton_of_pairwise {α : Type} {p : α → Bool} {l : List α} {x : α}
    (hdisjoint : l.Pairwise fun a b => ¬ (p a = true ∧ p b = true)) (hx : x ∈ l) (hp : p x = true) :
    l.filter p = [x] := by
  have hmem : x ∈ l.filter p := List.mem_filter.mpr ⟨hx, hp⟩
  have hmeets : ∀ a ∈ l.filter p, p a = true := fun a ha => (List.mem_filter.mp ha).2
  have hpairs := hdisjoint.filter p
  match hkept : l.filter p with
  | [] => exact absurd (hkept ▸ hmem) List.not_mem_nil
  | [y] =>
    obtain rfl : x = y := List.mem_singleton.mp (hkept ▸ hmem)
    rfl
  | y :: z :: rest =>
    rw [hkept] at hmeets hpairs
    exact absurd ⟨hmeets y (by simp), hmeets z (by simp)⟩ (List.rel_of_pairwise_cons hpairs (by simp))

/-- Settles O3: the operation's own row applies, and no second row does since any two rows differ under both masks. -/
theorem oneTableRowPerSelector : Obligations.OneTableRowPerSelector := by
  intro sel
  obtain ⟨i, hdecode, hmatches⟩ := hasOwnRow sel
  obtain ⟨row, hrow, hboth⟩ := List.any_eq_true.mp hmatches
  obtain ⟨hmnemonic, happlies⟩ := Bool.and_eq_true_iff.mp hboth
  have hfilter := filter_eq_singleton_of_pairwise (selectorRows_pairwise_disjoint sel) hrow happlies
  rw [hfilter, hdecode]
  exact congrArg (fun m => [m]) (beq_iff_eq.mp hmnemonic)

end Sys2Proof

/-! # Proofs: the five things an ADDRESS write does, and the whole key (R120 to R124, D2) -/

namespace Sys2Proof.Machine

/-! ### The lock and the key position -/

theorem State.locked_nil {s : State} (hcards : s.cards = []) : s.locked = false := by
  simp only [State.locked, hcards]

theorem State.locked_cons {s : State} {c : Card} {cs : List Card} (hcards : s.cards = c :: cs) :
    s.locked = decide (c.state = .waitForKey) := by
  simp only [State.locked, hcards]

theorem State.locked_of_first_waiting {s : State} {c : Card} {cs : List Card} (hcards : s.cards = c :: cs)
    (hc : c.state = .waitForKey) : s.locked = true :=
  (State.locked_cons hcards).trans (decide_eq_true hc)

theorem State.unlocked_of_first_not_waiting {s : State} {c : Card} {cs : List Card} (hcards : s.cards = c :: cs)
    (hc : c.state ≠ .waitForKey) : s.locked = false :=
  (State.locked_cons hcards).trans (decide_eq_false hc)

theorem State.cards_ne_nil_of_locked {s : State} (hlocked : s.locked = true) : s.cards ≠ [] := fun hcards => by
  rw [State.locked_nil hcards] at hlocked
  cases hlocked

/-- Below 31 the position advances without wrapping. -/
theorem keyPos_succ_toNat {p : BitVec 5} (h : p.toNat < 31) : (p + 1).toNat = p.toNat + 1 := by
  bv_omega

/-- Before the last byte a match only advances the position (R122). -/
theorem State.keyMatch_of_lt {s : State} (h : s.keyPos.toNat < 31) : s.keyMatch = s.withKeyPos (s.keyPos + 1) :=
  if_neg (by bv_omega)

/-- On the last byte a match returns the position to 0 and arms the waiting cards (R123). -/
theorem State.keyMatch_of_last {s : State} (h : s.keyPos.toNat = 31) : s.keyMatch = (s.withKeyPos 0).armAll := by
  have hwraps : s.keyPos + 1 = 0 := by bv_omega
  rw [State.keyMatch, if_pos hwraps, hwraps]

/-! ### An ADDRESS write, by what it meets -/

section AddressWrite

variable {s : State} {v : Byte}

theorem exec_aw_live (hlive : s.Live) (v : Byte) :
    exec (.aw v) s =
      if s.cards = [] then .next s.clearOutputs
      else if s.locked then
        .next (if v = s.expectedKeyByte then s.clearOutputs.keyMatch else s.clearOutputs.withKeyPos 0)
      else .next (s.clearOutputs.withReg v) :=
  show execAw v s = _ from operate_live hlive.1 hlive.2 _

/-- An empty chain ignores the write (R121). -/
theorem exec_aw_emptyChain (hlive : s.Live) (hcards : s.cards = []) : exec (.aw v) s = .next s.clearOutputs := by
  rw [exec_aw_live hlive, if_pos hcards]

/-- Off the lock the write latches the index (R124). -/
theorem exec_aw_unlocked (hlive : s.Live) (hcards : s.cards ≠ []) (hunlocked : s.locked = false) :
    exec (.aw v) s = .next (s.clearOutputs.withReg v) := by
  rw [exec_aw_live hlive, if_neg hcards, hunlocked, if_neg Bool.false_ne_true]

/-- Under the lock the write is a key byte (R122). -/
theorem exec_aw_locked (hlive : s.Live) (hlocked : s.locked = true) :
    exec (.aw v) s =
      .next (if v = s.expectedKeyByte then s.clearOutputs.keyMatch else s.clearOutputs.withKeyPos 0) := by
  rw [exec_aw_live hlive, if_neg (State.cards_ne_nil_of_locked hlocked), if_pos hlocked]

theorem exec_aw_mismatch (hlive : s.Live) (hlocked : s.locked = true) (hv : v ≠ s.expectedKeyByte) :
    exec (.aw v) s = .next (s.clearOutputs.withKeyPos 0) := by
  rw [exec_aw_locked hlive hlocked, if_neg hv]

theorem exec_aw_match (hlive : s.Live) (hlocked : s.locked = true) (hv : v = s.expectedKeyByte) :
    exec (.aw v) s = .next s.clearOutputs.keyMatch := by
  rw [exec_aw_locked hlive hlocked, if_pos hv]

theorem exec_aw_match_of_lt (hlive : s.Live) (hlocked : s.locked = true) (hv : v = s.expectedKeyByte)
    (hpos : s.keyPos.toNat < 31) : exec (.aw v) s = .next (s.clearOutputs.withKeyPos (s.keyPos + 1)) := by
  rw [exec_aw_match hlive hlocked hv, State.keyMatch_of_lt (s := s.clearOutputs) hpos, State.clearOutputs_keyPos]

theorem exec_aw_match_of_last (hlive : s.Live) (hlocked : s.locked = true) (hv : v = s.expectedKeyByte)
    (hpos : s.keyPos.toNat = 31) : exec (.aw v) s = .next (s.clearOutputs.withKeyPos 0).armAll := by
  rw [exec_aw_match hlive hlocked hv, State.keyMatch_of_last (s := s.clearOutputs) hpos]

end AddressWrite

/-- Settles O9: the chain is empty, unlocked or locked; under the lock the byte matches or not, before the last position
or at it. -/
theorem addressWriteIsKeyByteOrIndex : Obligations.AddressWriteIsKeyByteOrIndex := by
  intro s v hlive
  refine ⟨exec_aw_emptyChain hlive, ?unlocked, ?mismatch, ?advance, ?last⟩
  case unlocked =>
    intro c cs hcards hc
    exact exec_aw_unlocked hlive (by simp [hcards]) (State.unlocked_of_first_not_waiting hcards hc)
  case mismatch =>
    intro c cs hcards hc hv
    exact exec_aw_mismatch hlive (State.locked_of_first_waiting hcards hc) hv
  case advance =>
    intro c cs hcards hc hv hpos
    exact exec_aw_match_of_lt hlive (State.locked_of_first_waiting hcards hc) hv hpos
  case last =>
    intro c cs hcards hc hv hpos
    exact exec_aw_match_of_last hlive (State.locked_of_first_waiting hcards hc) hv hpos

/-! ### The key from any position on -/

theorem execAll_cons_next {i : Instr} {is : List Instr} {s t : State} (h : exec i s = .next t) :
    execAll (i :: is) s = execAll is t := by
  rw [execAll, h]

/-- The key bytes still to be written. -/
def State.remainingKey (s : State) : List Byte := s.cfg.key.toList.drop s.keyPos.toNat

theorem State.remainingKey_of_start {s : State} (h : s.keyPos = 0) : s.remainingKey = s.cfg.key.toList := by
  rw [State.remainingKey, h]
  rfl

/-- The next byte still to be written is the expected one. -/
theorem State.remainingKey_eq_cons (s : State) :
    s.remainingKey = s.expectedKeyByte :: s.cfg.key.toList.drop (s.keyPos.toNat + 1) := by
  have hlt : s.keyPos.toNat < s.cfg.key.toList.length := by
    rw [Vector.length_toList]
    exact s.keyPos.isLt
  exact List.drop_eq_getElem_cons hlt

theorem State.remainingKey_of_lt {s : State} (h : s.keyPos.toNat < 31) :
    s.remainingKey = s.expectedKeyByte :: (s.clearOutputs.withKeyPos (s.keyPos + 1)).remainingKey := by
  rw [State.remainingKey_eq_cons, State.remainingKey, State.withKeyPos_keyPos, keyPos_succ_toNat h,
    State.withKeyPos_cfg, State.clearOutputs_cfg]

theorem State.remainingKey_of_last {s : State} (h : s.keyPos.toNat = 31) : s.remainingKey = [s.expectedKeyByte] := by
  have hend : s.cfg.key.toList.length ≤ s.keyPos.toNat + 1 := by
    rw [Vector.length_toList]
    omega
  rw [State.remainingKey_eq_cons, List.drop_eq_nil_of_le hend]

/-- From any position, the rest of the key arms the waiting cards: each byte before the last moves the position one
closer to 31, where the last byte arms. -/
theorem execAll_remainingKey {s : State} (hlive : s.Live) (hlocked : s.locked = true) :
    execAll (s.remainingKey.map Instr.aw) s = .next (s.clearOutputs.withKeyPos 0).armAll := by
  induction hn : 31 - s.keyPos.toNat generalizing s with
  | zero =>
    have hlast : s.keyPos.toNat = 31 := by bv_omega
    rw [State.remainingKey_of_last hlast]
    exact execAll_cons_next (exec_aw_match_of_last hlive hlocked rfl hlast)
  | succ n ih =>
    have hpos : s.keyPos.toNat < 31 := by omega
    have hnext : 31 - (s.clearOutputs.withKeyPos (s.keyPos + 1)).keyPos.toNat = n := by
      rw [State.withKeyPos_keyPos, keyPos_succ_toNat hpos]
      omega
    rw [State.remainingKey_of_lt hpos, List.map_cons,
      execAll_cons_next (exec_aw_match_of_lt hlive hlocked rfl hpos)]
    exact ih hlive hlocked hnext

/-- Settles O10: from position 0 the rest of the key is the whole key. -/
theorem keySequenceArmsEveryWaitingCard : Obligations.KeySequenceArmsEveryWaitingCard := by
  intro s c cs hlive hcards hc hstart
  have hlocked := State.locked_of_first_waiting hcards hc
  have hkept : s.clearOutputs.withKeyPos 0 = s.clearOutputs := by
    rw [← hstart]
    rfl
  calc execAll (s.cfg.key.toList.map Instr.aw) s
    _ = execAll (s.remainingKey.map Instr.aw) s := by rw [State.remainingKey_of_start hstart]
    _ = .next (s.clearOutputs.withKeyPos 0).armAll := execAll_remainingKey hlive hlocked
    _ = .next s.clearOutputs.armAll := by rw [hkept]

end Sys2Proof.Machine

/-! # Proofs: the card-level registers, indices 0x00 and 0x02 to 0x1F (R141 to R157) -/

namespace Sys2Proof.Machine

/-! ### The operations -/

theorem exec_dwSetRdPort (v : Byte) (s : State) : exec (.dwSetRdPort v) s = execDwSetRdPort v s := rfl

theorem exec_dwConfigControl (v : Byte) (s : State) : exec (.dwConfigControl v) s = execDwConfigControl v s := rfl

theorem exec_dwWake (v : Byte) (s : State) : exec (.dwWake v) s = execDwWake v s := rfl

theorem exec_dwCsn (v : Byte) (s : State) : exec (.dwCsn v) s = execDwCsn v s := rfl

theorem exec_dwLdn (v : Byte) (s : State) : exec (.dwLdn v) s = execDwLdn v s := rfl

theorem exec_drResourceData (s : State) : exec .drResourceData s = execDrResourceData s := rfl

theorem exec_drStatus (s : State) : exec .drStatus s = execDrStatus s := rfl

theorem exec_drCsn (s : State) : exec .drCsn s = execDrCsn s := rfl

theorem exec_drLdn (s : State) : exec .drLdn s = execDrLdn s := rfl

/-! ### The guards in the terms of the statements -/

theorem operate_of_live {s : State} (hlive : s.Live) (body : State → Result) :
    operate s body = body s.clearOutputs :=
  have ⟨halive, hfault⟩ := hlive
  operate_live halive hfault body

theorem dataRead_of_readable {s : State} (hread : s.Readable) (body : State → Result) :
    dataRead s body = body s.clearOutputs :=
  have ⟨⟨halive, hfault⟩, hmapped⟩ := hread
  dataRead_live halive hfault hmapped body

theorem ignoredWrite_of_live {s : State} (hlive : s.Live) : ignoredWrite s = .next s.clearOutputs :=
  operate_of_live hlive dropped

theorem constantRead_of_readable {s : State} (hread : s.Readable) (b : Byte) :
    constantRead s b = .next { s.clearOutputs with ret := some (.byte b) } :=
  dataRead_of_readable hread _

/-! ### The scan for the CONFIG card -/

section ConfigCard

variable {s : State}

theorem State.configCard_of_firstIn {i : Nat} {c : Card} (h : s.FirstIn .config i c) : s.configCard = some (i, c) :=
  have ⟨hget, hstate, hbefore⟩ := h
  State.firstCardIn_of_get hget hstate hbefore

theorem State.configCard_of_noneIn (h : s.NoneIn .config) : s.configCard = none := State.firstCardIn_none.mpr h

theorem State.configCard_isSome_iff : s.configCard.isSome = true ↔ ∃ c ∈ s.cards, c.state = .config := by
  rw [Option.isSome_iff_ne_none, State.configCard, ne_eq, State.firstCardIn_none]
  simp

end ConfigCard

/-! ### 0x00 Set Read-Data port -/

theorem readPortAddress_toNat (v : Byte) : (readPortAddress v).toNat = 4 * v.toNat + 3 := by
  have hshift : (v.setWidth 16 <<< 2).toNat = v.toNat <<< 2 := by
    rw [BitVec.toNat_shiftLeft, BitVec.toNat_setWidth, Nat.shiftLeft_eq, Nat.shiftLeft_eq]
    omega
  calc (readPortAddress v).toNat
    _ = v.toNat <<< 2 ||| 3 := by rw [readPortAddress, BitVec.toNat_or, hshift]; rfl
    _ = v.toNat <<< 2 + 3 := (Nat.shiftLeft_add_eq_or_of_lt (by decide) v.toNat).symm
    _ = 4 * v.toNat + 3 := by rw [Nat.shiftLeft_eq]; omega

theorem readPortAddress_eq (v : Byte) : readPortAddress v = BitVec.ofNat 16 (4 * v.toNat + 3) := by
  rw [← readPortAddress_toNat, BitVec.ofNat_toNat, BitVec.setWidth_eq]

/-- The address lies in the legal range exactly from `v` = 0x80 on (R141). -/
theorem readPortAddress_legal_iff (v : Byte) :
    (readPortMin ≤ readPortAddress v ∧ readPortAddress v ≤ readPortMax) ↔ 0x80 ≤ v.toNat := by
  rw [BitVec.le_def, BitVec.le_def, readPortAddress_toNat, show readPortMin.toNat = 0x203 from rfl,
    show readPortMax.toNat = 0x3FF from rfl]
  omega

theorem mappedReadPort_eq (v : Byte) :
    mappedReadPort v = if 0x80 ≤ v.toNat then BitVec.ofNat 16 (4 * v.toNat + 3) else 0 := by
  simp only [mappedReadPort, readPortAddress_legal_iff]
  rw [readPortAddress_eq]

/-- Settles O11: the range check on the address is the check on the byte. -/
theorem setReadPortMapsOrUnmaps : Obligations.SetReadPortMapsOrUnmaps := by
  intro s v hlive
  rw [exec_dwSetRdPort, execDwSetRdPort, operate_of_live hlive, mappedReadPort_eq]
  rfl

/-! ### Accesses without an effect -/

/-- Settles O12: the three are ignored writes. -/
theorem blankDirectionWritesAreDropped : Obligations.BlankDirectionWritesAreDropped := fun _ _ hlive =>
  have hignored := ignoredWrite_of_live hlive
  ⟨hignored, hignored, hignored⟩

/-- Settles O13: the three are reads of the sentinel. -/
theorem blankDirectionReadsReturnFF : Obligations.BlankDirectionReadsReturnFF := fun _ hread =>
  have hsentinel := constantRead_of_readable hread readSentinel
  ⟨hsentinel, hsentinel, hsentinel⟩

/-- Settles O14: an ignored write and a read of the sentinel, at whatever index (log 18). -/
theorem unrecognizedIndicesAreInert : Obligations.UnrecognizedIndicesAreInert := fun _ _ _ _ _ =>
  ⟨ignoredWrite_of_live, fun hread => constantRead_of_readable hread readSentinel⟩

/-! ### 0x02 Config Control: the events -/

theorem chainEvents_map (f : Nat → Card → List Event) (g : Card → Card) (n : Nat) (cs : List Card) :
    chainEvents f n (cs.map g) = chainEvents (fun i c => f i (g c)) n cs := by
  induction cs generalizing n with
  | nil => rfl
  | cons c cs ih => rw [List.map_cons, chainEvents, chainEvents, ih]

/-- The events of the chain, card by card with its index. -/
theorem chainEvents_eq_flatMap (f : Nat → Card → List Event) (n : Nat) (cs : List Card) :
    chainEvents f n cs = (cs.zipIdx n).flatMap fun x => f x.2 x.1 := by
  induction cs generalizing n with
  | nil => rfl
  | cons c cs ih => rw [chainEvents, ih, List.zipIdx_cons, List.flatMap_cons]

/-- A card with the callback announces every device with its default registers. -/
theorem deviceEvents_resetRegs (p : Params) (i : Nat) (c : Card) :
    deviceEvents i (c.resetRegs p) =
      if c.hooks.cfgCb then c.lds.map fun d => .configChanged i d.number (project (resetLdRegs p d)) else [] := by
  have hdevices : deviceEvents i (c.resetRegs p) =
      c.lds.flatMap fun d => configChangedEvents i (c.resetRegs p) (resetLdRegs p d) := by
    rw [deviceEvents, Card.resetRegs, List.flatMap_map]
  rw [hdevices]
  cases hcb : c.hooks.cfgCb with
  | false => simp [configChangedEvents, Card.resetRegs, hcb]
  | true => simp [configChangedEvents, Card.resetRegs, hcb, List.map_eq_flatMap]

theorem resetEvents_eq (p : Params) (cs : List Card) :
    chainEvents deviceEvents 0 (cs.map (Card.resetRegs p)) =
      cs.zipIdx.flatMap fun x =>
        if x.1.hooks.cfgCb then
          x.1.lds.map fun d => Event.configChanged x.2 d.number (project (resetLdRegs p d))
        else [] := by
  rw [chainEvents_map, chainEvents_eq_flatMap]
  simp only [deviceEvents_resetRegs]

theorem csnEvents_eq (v : Byte) (cs : List Card) :
    chainEvents (fun i c => csnChangedEvents i c v) 0 cs =
      cs.zipIdx.flatMap fun x => if x.1.hooks.csnCb then [Event.csnChanged x.2 v] else [] :=
  chainEvents_eq_flatMap _ 0 cs

/-! ### 0x02 Config Control: the commands -/

theorem State.onCommand_reset (s : State) (bit : Bool) :
    s.onCommand bit State.resetCommand =
      { s with
        cards := s.cards.map fun c => { c with lds := if bit then c.lds.map (resetLdRegs s.cfg) else c.lds }
        readPort := if bit then 0 else s.readPort
        curLd := if bit then none else s.curLd
        isolated := if bit then none else s.isolated
        events := s.events ++ if bit then chainEvents deviceEvents 0 (s.cards.map (Card.resetRegs s.cfg)) else [] } := by
  cases bit with
  | false => simp [State.onCommand]
  | true => rfl

theorem State.onCommand_waitForKey (s : State) (bit : Bool) :
    s.onCommand bit State.waitForKeyCommand =
      { s with cards := s.cards.map fun c => { c with state := if bit then .waitForKey else c.state } } := by
  cases bit with
  | false => simp [State.onCommand]
  | true => rfl

theorem State.onCommand_resetCsn (s : State) (bit : Bool) :
    s.onCommand bit State.resetCsnCommand =
      { s with
        cards := s.cards.map fun c => { c with csn := if bit then 0 else c.csn }
        events := s.events ++ if bit then chainEvents (fun i c => csnChangedEvents i c 0) 0 s.cards else [] } := by
  cases bit with
  | false => simp [State.onCommand]
  | true => rfl

theorem exec_dwConfigControl_live {s : State} (hlive : s.Live) (v : Byte) :
    exec (.dwConfigControl v) s =
      .next (((s.clearOutputs.onCommand (v.getLsbD 0) State.resetCommand).onCommand (v.getLsbD 1)
        State.waitForKeyCommand).onCommand (v.getLsbD 2) State.resetCsnCommand) :=
  (exec_dwConfigControl v s).trans (operate_of_live hlive _)

/-- Settles O15: each command alone, then the three in order; the first two leave the hooks that the events of the third
look at. -/
theorem configControlRunsItsCommands : Obligations.ConfigControlRunsItsCommands := by
  intro s v hlive
  rw [exec_dwConfigControl_live hlive, State.onCommand_reset, State.onCommand_waitForKey, State.onCommand_resetCsn,
    ← resetEvents_eq, ← csnEvents_eq]
  simp only [List.map_map, chainEvents_map]
  rfl

/-- Settles O16: of the three command bits only bit 1 is set. -/
theorem returnToWaitForKeyMovesEveryCard : Obligations.ReturnToWaitForKeyMovesEveryCard := by
  intro s hlive
  obtain ⟨hbit0, hbit1, hbit2⟩ : (0x02 : Byte).getLsbD 0 = false ∧ (0x02 : Byte).getLsbD 1 = true ∧
      (0x02 : Byte).getLsbD 2 = false := by decide
  rw [exec_dwConfigControl_live hlive, hbit0, hbit1, hbit2]
  rfl

/-! ### 0x02 Config Control: no responder after a reset -/

/-- The upper-limit flags are forced at the listed indices only. -/
theorem LogicalDevice.forceFlags_reg_of_not_mem {q : Byte} {rs : List Byte} (hq : q ∉ rs) (k : Nat)
    (d : LogicalDevice) : (LogicalDevice.forceFlags k rs d).reg q = d.reg q := by
  induction rs generalizing k d with
  | nil => rfl
  | cons r rs ih =>
    obtain ⟨hr, hrs⟩ := not_or.mp (mt List.mem_cons.mpr hq)
    rw [LogicalDevice.forceFlags, ih hrs]
    split
    · exact LogicalDevice.reg_setReg_other _ hr
    · rfl

/-- Away from the DMA selects and the upper-limit flags a default register is 0 (R252). -/
theorem resetLdRegs_reg_of_plain {p : Params} {q : Byte} (hdma0 : q ≠ p.dmaReg0) (hdma1 : q ≠ p.dmaReg1)
    (hflag : q ∉ ulOffsets) (d : LogicalDevice) : (resetLdRegs p d).reg q = 0 := by
  rw [resetLdRegs, LogicalDevice.forceFlags_reg_of_not_mem hflag, LogicalDevice.reg_setReg_other _ hdma1,
    LogicalDevice.reg_setReg_other _ hdma0]
  rfl

theorem ne_rangeCheckReg_of_generic {r : Byte} (h : isGenericIndex r = true) : rangeCheckReg ≠ r := by
  rintro rfl
  exact absurd h (by decide)

theorem respondsAt_eq_false_of_disabled {d : LogicalDevice} (h : rangeCheckEnabled d = false) (a : Port) :
    respondsAt d a = false := by
  rw [respondsAt, h, Bool.false_and, Bool.false_and]

/-- The defaults disable the range check unless a DMA select is moved onto its register. -/
theorem resetLdRegs_rangeCheckEnabled {p : Params} (hsane : SaneParams p) (d : LogicalDevice) :
    rangeCheckEnabled (resetLdRegs p d) = false := by
  obtain ⟨⟨hdma0, -⟩, hdma1, -⟩ := hsane
  rw [rangeCheckEnabled, resetLdRegs_reg_of_plain (ne_rangeCheckReg_of_generic hdma0)
    (ne_rangeCheckReg_of_generic hdma1) (by decide)]
  rfl

/-- Settles O38: every device has its default registers, and with those it does not respond. -/
theorem resetCommandRemovesEveryResponder : Obligations.ResetCommandRemovesEveryResponder := by
  intro s v hlive hsane hreset
  refine ⟨_, configControlRunsItsCommands s v hlive, fun a => responder_eq_none_iff.mpr ?_⟩
  intro c hc d hd
  obtain ⟨e, -, rfl⟩ := List.mem_map.mp hc
  rw [if_pos hreset] at hd
  obtain ⟨d, -, rfl⟩ := List.mem_map.mp hd
  exact respondsAt_eq_false_of_disabled (resetLdRegs_rangeCheckEnabled hsane d) a

/-! ### 0x03 Wake -/

theorem wakeState_eq (v : Byte) (st : CardState) :
    wakeState v st = if st ≠ .sleep then st else if v = 0 then .isolation else .config := by
  rw [wakeState, ite_not]

/-- Settles O18: the model's `Card.wake` on every card, its state change said from the sleeping side (R147). -/
theorem wakeSeedsMatchingCardsAndSleepsTheRest : Obligations.WakeSeedsMatchingCardsAndSleepsTheRest := by
  intro s v hlive
  simp only [← wakeState_eq]
  rw [exec_dwWake, execDwWake, operate_of_live hlive]
  rfl

/-! ### 0x04 Resource Data -/

/-- Settles O20: no card in CONFIG, or a first one whose pointer is inside the ROM or past its end. -/
theorem resourceDataReadsTheNextRomByte : Obligations.ResourceDataReadsTheNextRomByte := by
  intro s hread
  rw [exec_drResourceData, execDrResourceData, dataRead_of_readable hread, State.configCard_clearOutputs]
  refine ⟨?none, ?byte, ?pastEnd⟩
  case none =>
    intro hnone
    rw [State.configCard_of_noneIn hnone]
    rfl
  case byte =>
    intro i c hfirst b hbyte
    simp only [State.configCard_of_firstIn hfirst, hbyte]
    rfl
  case pastEnd =>
    intro i c hfirst hend
    simp only [State.configCard_of_firstIn hfirst, List.getElem?_eq_none hend]
    rfl

/-! ### 0x05 Status -/

/-- Settles O21: the scan finds a card exactly where one is in CONFIG. -/
theorem statusReadsConfigPresence : Obligations.StatusReadsConfigPresence := by
  intro s hread
  rw [exec_drStatus, execDrStatus, dataRead_of_readable hread, State.configCard_clearOutputs]
  simp only [State.configCard_isSome_iff]
  rfl

/-! ### 0x06 Card Select Number -/

/-- Settles O22: the scan finds no card or the first one in CONFIG. -/
theorem csnReadReturnsTheConfigCardsCsn : Obligations.CsnReadReturnsTheConfigCardsCsn := by
  intro s hread
  rw [exec_drCsn, execDrCsn, dataRead_of_readable hread, State.configCard_clearOutputs]
  refine ⟨?none, ?first⟩
  case none =>
    intro hnone
    rw [State.configCard_of_noneIn hnone]
    rfl
  case first =>
    intro i c hfirst
    rw [State.configCard_of_firstIn hfirst]
    rfl

theorem State.isolatedCard_none_of_unmarked {s : State} (h : s.isolated = none) : s.isolatedCard = none := by
  simp only [State.isolatedCard, h]

/-- Settles O23: the marker names no card or one of the chain. -/
theorem csnWriteConfiguresTheIsolatedCard : Obligations.CsnWriteConfiguresTheIsolatedCard := by
  intro s v hlive
  rw [exec_dwCsn, execDwCsn, operate_of_live hlive, State.isolatedCard_clearOutputs]
  refine ⟨?unmarked, ?marked⟩
  case unmarked =>
    intro hunmarked
    rw [State.isolatedCard_none_of_unmarked hunmarked]
    rfl
  case marked =>
    intro i c hmarked hcard
    rw [State.isolatedCard_some.mpr ⟨hmarked, hcard⟩]
    rfl

/-! ### 0x07 Logical Device Number -/

/-- Settles O24: nothing is selected or a device of the chain. -/
theorem ldnReadReturnsTheSelectedNumber : Obligations.LdnReadReturnsTheSelectedNumber := by
  intro s hread
  rw [exec_drLdn, execDrLdn, dataRead_of_readable hread, State.currentDevice_clearOutputs]
  refine ⟨?unselected, ?selected⟩
  case unselected =>
    intro hunselected
    rw [State.currentDevice_none_of_unselected hunselected]
    rfl
  case selected =>
    intro ref c d hselected
    rw [State.currentDevice_some.mpr hselected]
    rfl

/-- The device before which none has the number is the one selected (log 16). -/
theorem Card.deviceNumbered_of_first {c : Card} {v : Byte} {k : Nat} {d : LogicalDevice} (hget : c.lds[k]? = some d)
    (hnumber : d.number = v) (hbefore : ∀ e ∈ c.lds.take k, e.number ≠ v) : c.deviceNumbered v = some k := by
  obtain ⟨hk, rfl⟩ := List.getElem?_eq_some_iff.mp hget
  refine List.findIdx?_eq_some_iff_getElem.mpr ⟨hk, beq_iff_eq.mpr hnumber, fun j hj => ?_⟩
  have hne := hbefore c.lds[j] (List.mem_take_iff_getElem.mpr ⟨j, by omega, rfl⟩)
  simpa using hne

theorem Card.deviceNumbered_none {c : Card} {v : Byte} (h : ∀ d ∈ c.lds, d.number ≠ v) : c.deviceNumbered v = none :=
  List.findIdx?_eq_none_iff.mpr fun d hd => beq_eq_false_iff_ne.mpr (h d hd)

/-- Settles O25: no card in CONFIG, or a first one that has the number or does not. -/
theorem ldnWriteSelectsOrIsFatal : Obligations.LdnWriteSelectsOrIsFatal := by
  intro s v hlive
  rw [exec_dwLdn, execDwLdn, operate_of_live hlive, State.configCard_clearOutputs]
  refine ⟨?none, ?selects, ?fatal⟩
  case none =>
    intro hnone
    rw [State.configCard_of_noneIn hnone]
    rfl
  case selects =>
    intro i c k d hfirst hget hnumber hbefore
    simp only [State.configCard_of_firstIn hfirst, Card.deviceNumbered_of_first hget hnumber hbefore]
    rfl
  case fatal =>
    intro i c hfirst hmissing
    simp only [State.configCard_of_firstIn hfirst, Card.deviceNumbered_none hmissing]
    rfl

end Sys2Proof.Machine

/-! # Proofs: serial isolation, one pulse and a whole pass (R180 to R189) -/

namespace Sys2Proof.Machine

/-! ### The running checksum -/

/-- The feedback bit is bit 7 alone (R184). -/
theorem lfsrStep_eq (p : Params) (ck : Byte) (bit : Bool) :
    lfsrStep p ck bit = (ck >>> 1) |||
      (if ((ck.getLsbD p.lfsrTapA.val ^^ ck.getLsbD p.lfsrTapB.val) ^^ bit) then 0x80 else 0x00) := by
  have hbit7 (b : Bool) : (BitVec.ofBool b).setWidth 8 <<< 7 = if b then (0x80 : Byte) else 0x00 := by
    cases b <;> rfl
  rw [lfsrStep, hbit7]

theorem lfsrBits_succ (p : Params) (bit : Nat → Bool) (n pos : Nat) (ck : Byte) :
    lfsrBits p bit (n + 1) pos ck = lfsrStep p (lfsrBits p bit n pos ck) (bit (pos + n)) := by
  induction n generalizing pos ck with
  | zero => rfl
  | succ n ih => rw [lfsrBits, ih, lfsrBits, Nat.add_right_comm, Nat.add_assoc]

/-! ### The position -/

/-- The position returns to 0 after the 72nd bit and only then (R187). -/
theorem serialPos_succ_eq_zero_iff (pos : Fin 72) : pos + 1 = 0 ↔ pos.val = 71 := by
  rw [Fin.ext_iff, Fin.val_add, Fin.val_one, Fin.val_zero]
  omega

theorem serialPos_succ_eq (pos : Fin 72) : pos + 1 = if pos.val = 71 then 0 else pos + 1 := by
  split
  case isTrue h => exact (serialPos_succ_eq_zero_iff pos).mpr h
  case isFalse => rfl

theorem serialPos_ofNat_succ (k : Nat) : Fin.ofNat 72 (k + 1) = Fin.ofNat 72 k + 1 := by
  rw [Fin.ext_iff, Fin.val_add]
  exact (Nat.mod_add_mod k 72 1).symm

theorem resourcePointerAfter_succ (p : Params) (pos : Fin 72) (romPos : Nat) :
    resourcePointerAfter p (pos + 1) romPos =
      if pos.val = 71 then p.romPosAfterIsolation.getD romPos else romPos := by
  simp only [resourcePointerAfter, serialPos_succ_eq_zero_iff]

/-! ### One pulse, by what the card sends -/

section Pulse

variable {p : Params} {c : Card}

/-- The first pulse of an identity bit (R183, R184). -/
theorem Card.pulse_identity (hfirst : c.serialPair = false) (hpos : c.serialPos.val < 64) :
    c.pulse p =
      ({ c with
          idChecksum := lfsrStep p c.idChecksum (c.identityBit c.serialPos.val)
          serialLatch := c.identityBit c.serialPos.val
          serialPair := true },
        firstPulse (c.identityBit c.serialPos.val)) := by
  rw [Card.pulse, hfirst]
  exact if_pos hpos

/-- The first pulse of a checksum bit, which stores the checksum where the bit is the first (R185). -/
theorem Card.pulse_checksum (hfirst : c.serialPair = false) (hpos : 64 ≤ c.serialPos.val) :
    c.pulse p =
      ({ c with
          rom := if c.serialPos.val = 64 then c.rom.set 8 c.idChecksum else c.rom
          serialLatch := c.idChecksum.getLsbD (c.serialPos.val - 64)
          serialPair := true },
        firstPulse (c.idChecksum.getLsbD (c.serialPos.val - 64))) := by
  have hbit : c.serialPos.val % 8 = c.serialPos.val - 64 := by omega
  have hstored : c.storeChecksum =
      { c with rom := if c.serialPos.val = 64 then c.rom.set 8 c.idChecksum else c.rom } := by
    unfold Card.storeChecksum identityBits
    split <;> rfl
  rw [Card.pulse, hfirst, ← hbit]
  simp only [Card.pulseFirst, identityBits, Nat.not_lt.mpr hpos, hstored, Bool.false_eq_true, if_false]

/-- The second pulse of a bit (R186, R187). -/
theorem Card.pulse_second (hsecond : c.serialPair = true) :
    c.pulse p =
      ({ c with
          serialPair := false
          serialPos := c.serialPos + 1
          romPos := if c.serialPos.val = 71 then p.romPosAfterIsolation.getD c.romPos else c.romPos },
        secondPulse p c.serialLatch) := by
  rw [← resourcePointerAfter_succ]
  exact if_pos hsecond

end Pulse

/-! ### One isolation read -/

theorem exec_drSerialIsolation (s : State) : exec .drSerialIsolation s = execDrSerialIsolation s := rfl

theorem State.firstCardIn_of_firstIn {s : State} {st : CardState} {i : Nat} {c : Card} (h : s.FirstIn st i c) :
    s.firstCardIn st = some (i, c) :=
  have ⟨hget, hstate, hbefore⟩ := h
  State.firstCardIn_of_get hget hstate hbefore

/-- With no card in ISOLATION the read clears the marker (R180, D26). -/
theorem exec_drSerialIsolation_none {s : State} (hread : s.Readable) (hnone : s.NoneIn .isolation) :
    exec .drSerialIsolation s = .next { s.clearOutputs with isolated := none, ret := some (.byte 0xFF) } := by
  rw [exec_drSerialIsolation, execDrSerialIsolation, dataRead_of_readable hread, State.firstCardIn_clearOutputs,
    State.firstCardIn_none.mpr hnone]
  rfl

/-- The first card in ISOLATION is marked and sends one pulse; no other card changes (R180, R181). -/
theorem exec_drSerialIsolation_firstIn {s : State} {i : Nat} {c : Card} (hread : s.Readable)
    (hfirst : s.FirstIn .isolation i c) :
    exec .drSerialIsolation s =
      .next { s.clearOutputs with
        isolated := some i
        cards := s.cards.set i (c.pulse s.cfg).1
        ret := some (.byte (c.pulse s.cfg).2) } := by
  rw [exec_drSerialIsolation, execDrSerialIsolation, dataRead_of_readable hread, State.firstCardIn_clearOutputs,
    State.firstCardIn_of_firstIn hfirst]
  rfl

/-- Settles O26: no card in ISOLATION, or the first one sends the pulse of one of the three kinds. -/
theorem isolationReadSendsOnePulse : Obligations.IsolationReadSendsOnePulse := by
  intro s hread
  refine ⟨exec_drSerialIsolation_none hread, ?identity, ?checksum, ?second⟩
  case identity =>
    rintro i c hfirst hpair hpos bit rfl
    rw [exec_drSerialIsolation_firstIn hread hfirst, Card.pulse_identity hpair hpos, lfsrStep_eq]
    rfl
  case checksum =>
    intro i c hfirst hpair hpos
    rw [exec_drSerialIsolation_firstIn hread hfirst, Card.pulse_checksum hpair hpos]
    rfl
  case second =>
    intro i c hfirst hpair
    rw [exec_drSerialIsolation_firstIn hread hfirst, Card.pulse_second hpair, ← serialPos_succ_eq]
    rfl

/-! ### Pulses in a row -/

theorem Card.pulses_add (p : Params) (m n : Nat) (c : Card) :
    Card.pulses p (m + n) c =
      ((Card.pulses p n (Card.pulses p m c).1).1,
        (Card.pulses p m c).2 ++ (Card.pulses p n (Card.pulses p m c).1).2) := by
  induction m generalizing c with
  | zero => rw [Nat.zero_add]; rfl
  | succ m ih => rw [Nat.add_right_comm, Card.pulses, Card.pulses, ih]; rfl

/-- The two pulses of a bit (R182). -/
def bitPulses (p : Params) (bit : Bool) : List Byte := [firstPulse bit, secondPulse p bit]

theorem bitPulses_eq (p : Params) (bit : Bool) :
    bitPulses p bit = if bit then [0x55, 0xAA] else [0x00, p.pulse2Zero] := by
  cases bit <;> rfl

section Bit

variable {p : Params} {c : Card}

/-- A first pulse and the second one that completes its bit, sent from the latch. -/
theorem Card.pulses_two {d : Card} {bit : Bool} (hfirst : c.pulse p = (d, firstPulse bit))
    (hpair : d.serialPair = true) (hlatch : d.serialLatch = bit) :
    Card.pulses p 2 c =
      ({ d with
          serialPair := false
          serialPos := d.serialPos + 1
          romPos := if d.serialPos.val = 71 then p.romPosAfterIsolation.getD d.romPos else d.romPos },
        bitPulses p bit) := by
  simp only [Card.pulses, hfirst, Card.pulse_second hpair, hlatch, bitPulses]

theorem Card.pulses_two_identity (hpair : c.serialPair = false) (hpos : c.serialPos.val < 64) :
    Card.pulses p 2 c =
      ({ c with
          idChecksum := lfsrStep p c.idChecksum (c.identityBit c.serialPos.val)
          serialPos := c.serialPos + 1
          serialLatch := c.identityBit c.serialPos.val },
        bitPulses p (c.identityBit c.serialPos.val)) := by
  rw [Card.pulses_two (Card.pulse_identity hpair hpos) rfl rfl, ← hpair, if_neg (by dsimp only; omega)]

theorem Card.pulses_two_checksum (hpair : c.serialPair = false) (hpos : 64 ≤ c.serialPos.val) :
    Card.pulses p 2 c =
      ({ c with
          serialPos := c.serialPos + 1
          serialLatch := c.idChecksum.getLsbD (c.serialPos.val - 64)
          rom := if c.serialPos.val = 64 then c.rom.set 8 c.idChecksum else c.rom
          romPos := if c.serialPos.val = 71 then p.romPosAfterIsolation.getD c.romPos else c.romPos },
        bitPulses p (c.idChecksum.getLsbD (c.serialPos.val - 64))) := by
  rw [Card.pulses_two (Card.pulse_checksum hpair hpos) rfl rfl, ← hpair]

end Bit

/-! ### The header as a pass sends it -/

/-- Bit `k` of the header as a pass leaves it, with the identity checksum in its placeholder (R189). -/
def Card.headerBit (p : Params) (c : Card) (k : Nat) : Bool :=
  ((c.rom.set 8 (c.identityChecksum p)).getD (k / 8) 0).getLsbD (k % 8)

section Header

variable {p : Params} {c : Card} {k : Nat}

/-- The first eight header bytes are the ROM's own. -/
theorem Card.headerBit_identity (hk : k < 64) : c.headerBit p k = c.identityBit k := by
  have hbyte : 8 ≠ k / 8 := by omega
  rw [Card.headerBit, Card.identityBit, List.getD_eq_getElem?_getD, List.getElem?_set_ne hbyte,
    ← List.getD_eq_getElem?_getD]

/-- The ninth header byte is the checksum. -/
theorem Card.headerBit_checksum (hrom : 9 ≤ c.rom.length) (hlow : 64 ≤ k) (hhigh : k < 72) :
    c.headerBit p k = (c.identityChecksum p).getLsbD (k - 64) := by
  have hbyte : k / 8 = 8 := by omega
  have hbit : k % 8 = k - 64 := by omega
  rw [Card.headerBit, hbyte, hbit, List.getD_eq_getElem?_getD, List.getElem?_set_self (by omega)]
  rfl

end Header

/-! ### The card during a pass -/

/-- The card when `k` of the 72 bits have been sent after a matching Wake: the checksum runs over the first 64 of them
and is stored with the 65th; the end of the last returns the position to 0 and sets the resource pointer. -/
def Card.afterBits (p : Params) (c : Card) (k : Nat) : Card :=
  { c with
    state := wakeState c.csn c.state
    idChecksum := lfsrBits p c.identityBit (min k 64) 0 p.key[0]
    serialPos := Fin.ofNat 72 k
    serialPair := false
    serialLatch := if k = 0 then c.serialLatch else c.headerBit p (k - 1)
    rom := if k ≤ 64 then c.rom else c.rom.set 8 (c.identityChecksum p)
    romPos := if k = 72 then p.romPosAfterIsolation.getD 0 else 0 }

section Pass

variable {p : Params} {c : Card} {k : Nat}

theorem Card.wake_self :
    c.wake p c.csn =
      { c with
        state := wakeState c.csn c.state
        idChecksum := p.key[0]
        serialPos := 0
        serialPair := false
        romPos := 0 } := if_pos rfl

theorem Card.afterBits_zero : c.afterBits p 0 = c.wake p c.csn := by
  rw [Card.wake_self]
  rfl

theorem Card.afterBits_last :
    c.afterBits p 72 =
      { c.wake p c.csn with
        idChecksum := c.identityChecksum p
        serialLatch := c.headerBit p 71
        rom := c.rom.set 8 (c.identityChecksum p)
        romPos := p.romPosAfterIsolation.getD 0 } := by
  rw [Card.wake_self]
  rfl

theorem Card.afterBits_serialPos (hk : k < 72) : (c.afterBits p k).serialPos.val = k := Nat.mod_eq_of_lt hk

theorem Card.afterBits_identityBit (hk : k ≤ 64) : (c.afterBits p k).identityBit = c.identityBit := by
  funext pos
  simp only [Card.identityBit, Card.afterBits, if_pos hk]

/-- From bit 64 on the checksum stands (R185). -/
theorem Card.afterBits_idChecksum (hk : 64 ≤ k) : (c.afterBits p k).idChecksum = c.identityChecksum p := by
  simp only [Card.afterBits, Nat.min_eq_right hk]
  rfl

/-- An identity bit changes the checksum, the position and the latch. -/
theorem Card.afterBits_succ_identity (hk : k < 64) :
    c.afterBits p (k + 1) =
      { c.afterBits p k with
        idChecksum := lfsrStep p (c.afterBits p k).idChecksum (c.identityBit k)
        serialPos := (c.afterBits p k).serialPos + 1
        serialLatch := c.identityBit k } := by
  have hmin : min (k + 1) 64 = min k 64 + 1 := by omega
  have hbit : 0 + min k 64 = k := by omega
  have hstill : ¬ k + 1 = 72 ∧ ¬ k = 72 := by omega
  simp only [Card.afterBits, hmin, lfsrBits_succ, hbit, serialPos_ofNat_succ, Nat.add_one_ne_zero, Nat.add_sub_cancel,
    Card.headerBit_identity hk, hstill, Nat.succ_le_of_lt hk, Nat.le_of_lt hk, if_true, if_false]

/-- A checksum bit changes the position and the latch, the first one the ROM and the last one the resource pointer. -/
theorem Card.afterBits_succ_checksum (hlow : 64 ≤ k) (hhigh : k < 72) :
    c.afterBits p (k + 1) =
      { c.afterBits p k with
        serialPos := (c.afterBits p k).serialPos + 1
        serialLatch := c.headerBit p k
        rom := if k = 64 then (c.afterBits p k).rom.set 8 (c.identityChecksum p) else (c.afterBits p k).rom
        romPos :=
          if k = 71 then p.romPosAfterIsolation.getD (c.afterBits p k).romPos else (c.afterBits p k).romPos } := by
  obtain rfl | hlater := Nat.eq_or_lt_of_le hlow
  · rfl
  · have hmin : min (k + 1) 64 = min k 64 := by omega
    have hstored : ¬ k + 1 ≤ 64 ∧ ¬ k ≤ 64 ∧ ¬ k = 64 := by omega
    have hend : (k + 1 = 72 ↔ k = 71) ∧ ¬ k = 72 := by omega
    simp only [Card.afterBits, hmin, serialPos_ofNat_succ, Nat.add_one_ne_zero, Nat.add_sub_cancel, hstored, hend,
      if_false]

theorem Card.pulses_two_afterBits (hrom : 9 ≤ c.rom.length) (hk : k < 72) :
    Card.pulses p 2 (c.afterBits p k) = (c.afterBits p (k + 1), bitPulses p (c.headerBit p k)) := by
  have hpos : (c.afterBits p k).serialPos.val = k := Card.afterBits_serialPos hk
  obtain hlow | hhigh := Nat.lt_or_ge k 64
  · have hidentity : (c.afterBits p k).serialPos.val < 64 := by omega
    rw [Card.pulses_two_identity rfl hidentity, hpos, Card.afterBits_identityBit (Nat.le_of_lt hlow),
      Card.afterBits_succ_identity hlow, Card.headerBit_identity hlow]
  · have hchecksum : 64 ≤ (c.afterBits p k).serialPos.val := by omega
    rw [Card.pulses_two_checksum rfl hchecksum, hpos, Card.afterBits_succ_checksum hhigh hk,
      Card.headerBit_checksum hrom hhigh hk, ← Card.afterBits_idChecksum hhigh]

theorem Card.pulses_afterBits (hrom : 9 ≤ c.rom.length) (hk : k ≤ 72) :
    Card.pulses p (2 * k) (c.afterBits p 0) =
      (c.afterBits p k, (List.range k).flatMap fun j => bitPulses p (c.headerBit p j)) := by
  induction k with
  | zero => rfl
  | succ k ih =>
    rw [Nat.mul_succ, Card.pulses_add, ih (by omega), Card.pulses_two_afterBits hrom hk, List.range_succ,
      List.flatMap_append, List.flatMap_singleton]

end Pass

/-- Settles O27: the 72 bits of the pass from its start, and the card after the last of them. -/
theorem isolationPassSendsTheHeader : Obligations.IsolationPassSendsTheHeader := by
  intro p c hrom
  have hpass := Card.pulses_afterBits (p := p) hrom (Nat.le_refl 72)
  rw [Card.afterBits_zero, Card.afterBits_last] at hpass
  simp only [bitPulses_eq] at hpass
  exact ⟨c.headerBit p 71, congrArg Prod.fst hpass, congrArg Prod.snd hpass⟩

end Sys2Proof.Machine

/-! # Proofs: the vendor registers, the logical-device registers and the range-check responders (R200 to R212) -/

namespace Sys2Proof.Machine

/-! ### The operations -/

theorem exec_drVendorCard (reg : Byte) (s : State) : exec (.drVendorCard reg) s = execDrVendorCard reg s := rfl

theorem exec_dwVendorCard (reg v : Byte) (s : State) : exec (.dwVendorCard reg v) s = execDwVendorCard reg v s := rfl

theorem exec_drVendorLd (reg : Byte) (s : State) : exec (.drVendorLd reg) s = execDrVendorLd reg s := rfl

theorem exec_dwVendorLd (reg v : Byte) (s : State) : exec (.dwVendorLd reg v) s = execDwVendorLd reg v s := rfl

theorem exec_rc (a : Port) (s : State) : exec (.rc a) s = execRc a s := rfl

theorem exec_drActivate (s : State) : exec .drActivate s = readDeviceReg s 0x30 := rfl

theorem exec_drIoRangeCheck (s : State) : exec .drIoRangeCheck s = readDeviceReg s 0x31 := rfl

theorem exec_drGeneric (reg : Byte) (s : State) : exec (.drGeneric reg) s = readDeviceReg s reg := rfl

theorem exec_dwActivate (v : Byte) (s : State) :
    exec (.dwActivate v) s = writeDeviceReg s 0x30 (fun _ => v &&& 0x01) true := rfl

theorem exec_dwIoRangeCheck (v : Byte) (s : State) :
    exec (.dwIoRangeCheck v) s = writeDeviceReg s 0x31 (fun _ => v &&& 0x03) false := rfl

theorem exec_dwGeneric (reg v : Byte) (s : State) :
    exec (.dwGeneric reg v) s = writeDeviceReg s reg (fun old => genericStored reg old v) true := rfl

/-! ### A vendor-read hook -/

theorem vendorRead_hooked {c : Card} (h : c.hooks.vendorRead = true) (s : State) (i : Nat) (ldn reg : Byte) :
    vendorRead s i c ldn reg = .next ((s.ask ⟨i, ldn, reg⟩).reply (.byte (Config.vendorByte s.asks))) := by
  rw [vendorRead_eq, if_pos h]

theorem vendorRead_unhooked {c : Card} (h : c.hooks.vendorRead = false) (s : State) (i : Nat) (ldn reg : Byte) :
    vendorRead s i c ldn reg = .next (s.reply (.byte readSentinel)) := by
  rw [vendorRead_eq, h, if_neg Bool.false_ne_true]

/-! ### Vendor registers, card scope -/

/-- Settles O28: the scan finds no card or the first one in CONFIG, whose hook stands or does not. -/
theorem vendorCardAccessesReachTheConfigCard : Obligations.VendorCardAccessesReachTheConfigCard := by
  intro s reg v
  rw [exec_drVendorCard, execDrVendorCard, exec_dwVendorCard, execDwVendorCard]
  refine ⟨?readNone, ?readUnhooked, ?readHooked, ?writeNone, ?writeFirst⟩
  case readNone =>
    intro hread hnone
    rw [dataRead_of_readable hread, State.configCard_clearOutputs, State.configCard_of_noneIn hnone]
    rfl
  case readUnhooked =>
    intro i c hread hfirst hhook
    rw [dataRead_of_readable hread, State.configCard_clearOutputs, State.configCard_of_firstIn hfirst]
    exact vendorRead_unhooked hhook _ _ _ _
  case readHooked =>
    intro i c hread hfirst hhook
    rw [dataRead_of_readable hread, State.configCard_clearOutputs, State.configCard_of_firstIn hfirst]
    exact vendorRead_hooked hhook _ _ _ _
  case writeNone =>
    intro hlive hnone
    rw [operate_of_live hlive, State.configCard_clearOutputs, State.configCard_of_noneIn hnone]
    rfl
  case writeFirst =>
    intro i c hlive hfirst
    rw [operate_of_live hlive, State.configCard_clearOutputs, State.configCard_of_firstIn hfirst]
    rfl

/-! ### Vendor registers, device scope -/

/-- Settles O29: nothing is selected, or a device whose card's hook stands or does not. -/
theorem vendorDeviceReadAsksTheOwningCard : Obligations.VendorDeviceReadAsksTheOwningCard := by
  intro s reg hread
  rw [exec_drVendorLd, execDrVendorLd, dataRead_of_readable hread, State.currentDevice_clearOutputs]
  refine ⟨?unselected, ?unhooked, ?hooked⟩
  case unselected =>
    intro hunselected
    rw [State.currentDevice_none_of_unselected hunselected]
    rfl
  case unhooked =>
    intro ref c d hselected hhook
    rw [State.currentDevice_some.mpr hselected]
    exact vendorRead_unhooked hhook _ _ _ _
  case hooked =>
    intro ref c d hselected hhook
    rw [State.currentDevice_some.mpr hselected]
    exact vendorRead_hooked hhook _ _ _ _

/-- Settles O30: nothing is selected, or a device whose card takes the byte; the event is the whole effect. -/
theorem vendorDeviceWriteEmitsOneEvent : Obligations.VendorDeviceWriteEmitsOneEvent := by
  intro s reg v hlive
  rw [exec_dwVendorLd, execDwVendorLd, operate_of_live hlive, State.currentDevice_clearOutputs]
  refine ⟨?unselected, ?selected⟩
  case unselected =>
    intro hunselected
    rw [State.currentDevice_none_of_unselected hunselected]
    rfl
  case selected =>
    intro ref c d hselected
    rw [State.currentDevice_some.mpr hselected]
    rfl

/-! ### The register file of the selected device, read and written -/

section SelectedDevice

variable {s : State} {ref : DeviceRef} {c : Card} {d : LogicalDevice}

theorem readDeviceReg_unselected (hread : s.Readable) (hunselected : s.curLd = none) (r : Byte) :
    readDeviceReg s r = .next { s.clearOutputs with ret := some (.byte 0xFF) } := by
  rw [readDeviceReg, dataRead_of_readable hread, State.currentDevice_clearOutputs,
    State.currentDevice_none_of_unselected hunselected]
  rfl

theorem readDeviceReg_selected (hread : s.Readable) (hselected : s.Selected ref c d) (r : Byte) :
    readDeviceReg s r = .next { s.clearOutputs with ret := some (.byte (d.reg r)) } := by
  rw [readDeviceReg, dataRead_of_readable hread, State.currentDevice_clearOutputs,
    State.currentDevice_some.mpr hselected]
  rfl

theorem writeDeviceReg_unselected (hlive : s.Live) (hunselected : s.curLd = none) (r : Byte) (f : Byte → Byte)
    (fires : Bool) : writeDeviceReg s r f fires = .next s.clearOutputs := by
  rw [writeDeviceReg, operate_of_live hlive, State.currentDevice_clearOutputs,
    State.currentDevice_none_of_unselected hunselected]
  rfl

theorem writeDeviceReg_selected (hlive : s.Live) (hselected : s.Selected ref c d) (r : Byte) (f : Byte → Byte)
    (fires : Bool) :
    writeDeviceReg s r f fires =
      .next ((s.clearOutputs.setDevice ref c (d.setReg r (f (d.reg r)))).emit
        (if fires then configChangedEvents ref.card c (d.setReg r (f (d.reg r))) else [])) := by
  rw [writeDeviceReg, operate_of_live hlive, State.currentDevice_clearOutputs, State.currentDevice_some.mpr hselected]

end SelectedDevice

/-- Settles O31: the three are the read of one register of the selected device. -/
theorem deviceReadsReturnTheRegister : Obligations.DeviceReadsReturnTheRegister := by
  intro i r s hread hform
  have hexec : exec i s = readDeviceReg s r := by
    obtain ⟨rfl, rfl⟩ | ⟨rfl, rfl⟩ | rfl := hform
    · exact exec_drActivate s
    · exact exec_drIoRangeCheck s
    · exact exec_drGeneric r s
  rw [hexec]
  exact ⟨fun hunselected => readDeviceReg_unselected hread hunselected r,
    fun _ _ _ hselected => readDeviceReg_selected hread hselected r⟩

/-! ### What a write stores, and the event -/

/-- Settles O32: the write of a register with the projector fired, the byte stored being bit 0. -/
theorem activateWriteStoresBitZeroAndFires : Obligations.ActivateWriteStoresBitZeroAndFires := by
  intro s v hlive
  rw [exec_dwActivate]
  refine ⟨fun hunselected => writeDeviceReg_unselected hlive hunselected _ _ _, ?selected⟩
  rintro ref c d hselected _ rfl
  exact writeDeviceReg_selected hlive hselected _ _ _

/-- Settles O33: the write of a register without the projector, the byte stored being bits 1:0. -/
theorem rangeCheckWriteStoresTwoBits : Obligations.RangeCheckWriteStoresTwoBits := by
  intro s v hlive
  rw [exec_dwIoRangeCheck]
  exact ⟨fun hunselected => writeDeviceReg_unselected hlive hunselected _ _ _,
    fun _ _ _ hselected => writeDeviceReg_selected hlive hselected _ _ _⟩

theorem genericStored_eq (r old v : Byte) :
    genericStored r old v =
      if r ∈ [(0x42 : Byte), 0x4A, 0x52, 0x5A, 0x7A, 0x84, 0x94, 0xA4] then (v &&& 0xFE) ||| (old &&& 0x01) else v := by
  simp only [genericStored, isUpperLimitOffset, ulOffsets, List.contains_iff_mem]

/-- Settles O34: the write of a register with the projector fired, the byte stored depending on the index (R210). -/
theorem genericWriteKeepsUpperLimitFlags : Obligations.GenericWriteKeepsUpperLimitFlags := by
  intro s reg v hlive
  rw [exec_dwGeneric]
  refine ⟨fun hunselected => writeDeviceReg_unselected hlive hunselected _ _ _, ?selected⟩
  rintro ref c d hselected _ rfl
  rw [writeDeviceReg_selected hlive hselected, genericStored_eq]
  rfl

/-! ### The device at a place of the chain, after one is replaced -/

/-- Device `d` stands at index `k` of card `j`. -/
def State.DeviceAt (s : State) (j k : Nat) (d : LogicalDevice) : Prop :=
  ∃ c, s.cards[j]? = some c ∧ c.lds[k]? = some d

section SetDevice

variable {s : State} {ref : DeviceRef} {c : Card} {d : LogicalDevice}

theorem State.DeviceAt.unique {j k : Nat} {e : LogicalDevice} (hd : s.DeviceAt j k d) (he : s.DeviceAt j k e) :
    d = e := by
  obtain ⟨c, hc, hd⟩ := hd
  obtain ⟨c', hc', he⟩ := he
  cases hc.symm.trans hc'
  exact Option.some.inj (hd.symm.trans he)

theorem State.deviceAt_of_selected (h : s.Selected ref c d) : s.DeviceAt ref.card ref.device d :=
  have ⟨_, hcard, hdevice⟩ := h
  ⟨c, hcard, hdevice⟩

/-- The replaced device is selected in its turn: `cur_ld` is a reference, not a copy (R27). -/
theorem State.selected_setDevice (h : s.Selected ref c d) (d' : LogicalDevice) :
    (s.setDevice ref c d').Selected ref (c.setDevice ref.device d') d' := by
  obtain ⟨hcur, hcard, hdevice⟩ := h
  obtain ⟨hcardlt, -⟩ := List.getElem?_eq_some_iff.mp hcard
  obtain ⟨hdevicelt, -⟩ := List.getElem?_eq_some_iff.mp hdevice
  exact ⟨hcur, List.getElem?_set_self hcardlt, List.getElem?_set_self hdevicelt⟩

/-- After a register write the controller still reads, with the written device selected. -/
theorem writeDeviceReg_selects (hread : s.Readable) (hselected : s.Selected ref c d) (r : Byte) (f : Byte → Byte)
    (fires : Bool) :
    ∃ t, writeDeviceReg s r f fires = .next t ∧ t.Readable ∧ ∃ c', t.Selected ref c' (d.setReg r (f (d.reg r))) :=
  have ⟨hlive, _⟩ := hread
  ⟨_, writeDeviceReg_selected hlive hselected r f fires, hread, _,
    State.selected_setDevice (s := s.clearOutputs) hselected _⟩

/-- Every other device stays, on the same card and on the others. -/
theorem State.deviceAt_setDevice_other {j k : Nat} {d' e : LogicalDevice} (hcard : s.cards[ref.card]? = some c)
    (he : s.DeviceAt j k e) (hother : ¬ (j = ref.card ∧ k = ref.device)) : (s.setDevice ref c d').DeviceAt j k e := by
  obtain ⟨c', hc', hdevice⟩ := he
  by_cases hj : j = ref.card
  · subst hj
    obtain rfl : c = c' := Option.some.inj (hcard.symm.trans hc')
    obtain ⟨hlt, -⟩ := List.getElem?_eq_some_iff.mp hcard
    have hk : ref.device ≠ k := fun hk => hother ⟨rfl, hk.symm⟩
    exact ⟨c.setDevice ref.device d', List.getElem?_set_self hlt, (List.getElem?_set_ne hk).trans hdevice⟩
  · exact ⟨c', (List.getElem?_set_ne (Ne.symm hj)).trans hc', hdevice⟩

/-- A register write of the selected device changes one byte of one register file. -/
theorem State.deviceAt_setDevice_setReg {j k : Nat} {e : LogicalDevice} (hselected : s.Selected ref c d)
    (hwf : Memory.wf d.regs) (he : s.DeviceAt j k e) (r b : Byte) :
    ∃ e', (s.setDevice ref c (d.setReg r b)).DeviceAt j k e' ∧ e'.number = e.number ∧ e'.ulMask = e.ulMask ∧
      ∀ a : Nat,
        Memory.read e'.regs a =
          if j = ref.card ∧ k = ref.device ∧ a = r.toNat then b else Memory.read e.regs a := by
  by_cases hplace : j = ref.card ∧ k = ref.device
  · obtain ⟨rfl, rfl⟩ := hplace
    obtain rfl := (State.deviceAt_of_selected hselected).unique he
    refine ⟨_, State.deviceAt_of_selected (State.selected_setDevice hselected _), rfl, rfl, fun a => ?_⟩
    by_cases ha : a = r.toNat
    · rw [if_pos ⟨rfl, rfl, ha⟩, ha]
      exact Memory.read_write_same _ b hwf
    · rw [if_neg fun ⟨_, _, h⟩ => ha h]
      exact Memory.read_write_other b ha
  · have ⟨_, hcard, _⟩ := hselected
    exact ⟨e, State.deviceAt_setDevice_other hcard he hplace, rfl, rfl,
      fun a => (if_neg fun ⟨hj, hk, _⟩ => hplace ⟨hj, hk⟩).symm⟩

/-- The register file of the selected device is one of the chain's. -/
theorem State.wf_of_selected (hcanonical : s.RegisterFilesCanonical) (h : s.Selected ref c d) : Memory.wf d.regs :=
  have ⟨_, hcard, hdevice⟩ := h
  have ⟨hwf, _⟩ := hcanonical c (List.mem_of_getElem? hcard) d (List.mem_of_getElem? hdevice)
  hwf

end SetDevice

/-- Settles O35: each of the three replaces the selected device by itself with one register written. -/
theorem deviceWriteLeavesEveryOtherByte : Obligations.DeviceWriteLeavesEveryOtherByte := by
  intro i r b s ref c d hlive hcanonical hselected hform
  obtain ⟨f, fires, hexec, rfl⟩ : ∃ f fires, exec i s = writeDeviceReg s r f fires ∧ b = f (d.reg r) := by
    obtain ⟨v, rfl, rfl, hb⟩ | ⟨v, rfl, rfl, hb⟩ | ⟨v, rfl, hb⟩ := hform
    · exact ⟨_, _, exec_dwActivate v s, hb⟩
    · exact ⟨_, _, exec_dwIoRangeCheck v s, hb⟩
    · exact ⟨_, _, exec_dwGeneric r v s, hb⟩
  refine ⟨_, hexec.trans (writeDeviceReg_selected hlive hselected r f fires), fun j k cj dk hcj hdk => ?_⟩
  have hwf := State.wf_of_selected hcanonical hselected
  obtain ⟨dk', ⟨cj', hcj', hdk'⟩, hkept⟩ :=
    State.deviceAt_setDevice_setReg (s := s.clearOutputs) hselected hwf ⟨cj, hcj, hdk⟩ r (f (d.reg r))
  exact ⟨cj', dk', hcj', hdk', hkept⟩

/-- Settles O36: the state after the write is readable, with the written device selected. -/
theorem genericWriteReadsBack : Obligations.GenericWriteReadsBack := by
  intro s reg v ref c d hread hcanonical hselected
  obtain ⟨t, hwrite, hread', c', hselected'⟩ :=
    writeDeviceReg_selects hread hselected reg (fun old => genericStored reg old v) true
  have hreg := readDeviceReg_selected hread' hselected' reg
  rw [LogicalDevice.reg_setReg_same _ _ (State.wf_of_selected hcanonical hselected)] at hreg
  exact ⟨t, _, hwrite, hreg, rfl, rfl⟩

/-! ### The range-check responders -/

theorem hasIoBase_iff {d : LogicalDevice} {a : Port} : hasIoBase d a = true ↔ ∃ k, k < 8 ∧ a = ioBase d k := by
  have hrange : [0, 1, 2, 3, 4, 5, 6, 7] = List.range 8 := rfl
  simp only [hasIoBase, hrange, List.any_eq_true, List.mem_range, beq_iff_eq, eq_comm (a := a)]

/-- The responder set of R206 with the bases written out (D30). -/
theorem respondsAt_iff {d : LogicalDevice} {a : Port} :
    respondsAt d a = true ↔
      (d.reg 0x31).getLsbD 1 = true ∧ a ≠ 0 ∧
        ∃ k, k < 8 ∧ a = d.reg (BitVec.ofNat 8 (0x60 + 2 * k)) ++ d.reg (BitVec.ofNat 8 (0x61 + 2 * k)) := by
  rw [respondsAt, Bool.and_eq_true, Bool.and_eq_true, hasIoBase_iff, bne_iff_ne, and_assoc, and_comm (b := a ≠ 0)]
  rfl

/-- The first responder in chain and descriptor order answers. -/
theorem State.responder_of_first {s : State} {a : Port} {before after : List LogicalDevice} {d : LogicalDevice}
    (hdevices : s.cards.flatMap (fun c => c.lds) = before ++ d :: after)
    (hbefore : ∀ e ∈ before, respondsAt e a = false) (hd : respondsAt d a = true) : s.responder a = some d := by
  rw [State.responder, List.find?_eq_some_iff_append]
  exact ⟨hd, before, after, hdevices, fun e he => by rw [hbefore e he]; rfl⟩

theorem execRc_answered {s : State} {a : Port} {d : LogicalDevice} (hlive : s.Live) (h : s.responder a = some d) :
    execRc a s = .next { s.clearOutputs with ret := some (.byte (rangeCheckPattern d)) } := by
  have hresponder : s.clearOutputs.responder a = some d := h
  rw [execRc, operate_of_live hlive, hresponder]
  rfl

/-- Settles O37: the set is the model's `respondsAt`, in which the first device is found or none. -/
theorem rangeCheckReadAnswersTheFirstDevice : Obligations.RangeCheckReadAnswersTheFirstDevice := by
  intro s a hlive
  simp only [← respondsAt_iff, Bool.not_eq_true, exec_rc]
  refine ⟨execRc_unanswered hlive, ?first⟩
  intro before d after hdevices hbefore hd
  exact execRc_answered hlive (State.responder_of_first hdevices hbefore hd)

end Sys2Proof.Machine

/-! # Proofs: the register defaults and the configuration projection (R252, R256) -/

namespace Sys2Proof.Machine

/-! ### The default register file, byte by byte -/

theorem byte_or_zero (b : Byte) : b ||| 0x00 = b := BitVec.or_zero

section Defaults

variable {d : LogicalDevice}

theorem LogicalDevice.reg_forceLowBit (hwf : Memory.wf d.regs) (r q : Byte) :
    (d.forceLowBit r).reg q = d.reg q ||| (if r = q then 0x01 else 0x00) := by
  by_cases h : r = q
  · subst h
    rw [if_pos rfl]
    exact LogicalDevice.reg_setReg_same r _ hwf
  · rw [if_neg h, byte_or_zero]
    exact LogicalDevice.reg_setReg_other _ (Ne.symm h)

/-- A byte after the forcing run is the byte before, its bit 0 forced where a slot with this control byte has its mask
bit set. -/
theorem LogicalDevice.reg_forceFlags (hwf : Memory.wf d.regs) (k : Nat) (rs : List Byte) (q : Byte) :
    (LogicalDevice.forceFlags k rs d).reg q =
      d.reg q ||| (if ∃ slot ∈ rs.zipIdx k, slot.1 = q ∧ d.ulMask.getLsbD slot.2 = true then 0x01 else 0x00) := by
  induction rs generalizing k d with
  | nil => simp [LogicalDevice.forceFlags]
  | cons r rs ih =>
    simp only [LogicalDevice.forceFlags, List.zipIdx_cons, List.mem_cons, exists_eq_or_imp]
    by_cases hbit : d.ulMask.getLsbD k = true
    · have hwf' : Memory.wf (d.forceLowBit r).regs := LogicalDevice.wf_setReg r _ hwf
      rw [if_pos hbit, ih hwf', LogicalDevice.reg_forceLowBit hwf, LogicalDevice.forceLowBit_ulMask]
      by_cases hr : r = q
      · simp only [hr, hbit, and_self, true_or, if_true, BitVec.or_assoc]
        split <;> rfl
      · simp only [hr, false_and, false_or, if_false, byte_or_zero]
    · rw [if_neg hbit, ih hwf]
      simp only [hbit, and_false, false_or, Bool.false_eq_true]

/-- Two registers preset to one byte, every other one 0. -/
theorem LogicalDevice.reg_preset_pair (d : LogicalDevice) (a b v r : Byte) :
    ((({ d with regs := [] } : LogicalDevice).setReg a v).setReg b v).reg r = if r = a ∨ r = b then v else 0x00 := by
  have hwf : Memory.wf ([] : Memory) := by simp [Memory.wf]
  by_cases hb : r = b
  · subst hb
    rw [LogicalDevice.reg_setReg_same r v (LogicalDevice.wf_setReg a v hwf), if_pos (.inr rfl)]
  · rw [LogicalDevice.reg_setReg_other v hb]
    by_cases ha : r = a
    · subst ha
      rw [LogicalDevice.reg_setReg_same r v hwf, if_pos (.inl rfl)]
    · rw [LogicalDevice.reg_setReg_other v ha, if_neg (not_or.mpr ⟨ha, hb⟩)]
      rfl

end Defaults

/-- Settles O17: the forcing run over the eight control bytes, on the file preset at the two DMA offsets. -/
theorem registerDefaultsByteByByte : Obligations.RegisterDefaultsByteByByte := by
  intro p d r
  refine ⟨?_, resetLdRegs_number p d, resetLdRegs_ulMask p d⟩
  have hpreset : Memory.wf
      ((({ d with regs := [] } : LogicalDevice).setReg p.dmaReg0 p.dmaDisabled).setReg p.dmaReg1 p.dmaDisabled).regs :=
    LogicalDevice.wf_setReg _ _ (LogicalDevice.wf_setReg _ _ (by simp [Memory.wf]))
  rw [resetLdRegs, LogicalDevice.reg_forceFlags hpreset, LogicalDevice.reg_preset_pair]
  rfl

/-! ### The projection of the registers -/

theorem append_byte_toNat {w : Nat} (a : BitVec w) (b : Byte) : (a ++ b).toNat = a.toNat * 256 + b.toNat := by
  rw [BitVec.toNat_append, ← Nat.shiftLeft_add_eq_or_of_lt b.isLt, Nat.shiftLeft_eq]

section Projection

variable (d : LogicalDevice)

theorem LogicalDevice.reg_ofNat {n : Nat} (h : n < 256) : d.reg (BitVec.ofNat 8 n) = Memory.read d.regs n := by
  rw [LogicalDevice.reg, BitVec.toNat_ofNat, Nat.mod_eq_of_lt h]

/-- The registers behind register `n` (R256). -/
theorem LogicalDevice.reg_ofNat_add {n k : Nat} (h : n + k < 256) :
    d.reg (BitVec.ofNat 8 n + BitVec.ofNat 8 k) = Memory.read d.regs (n + k) := by
  rw [← BitVec.ofNat_add, LogicalDevice.reg_ofNat d h]

theorem address24_toNat {n : Nat} (h : n + 1 < 256) :
    (address24 d (BitVec.ofNat 8 n)).toNat =
      (Memory.read d.regs n).toNat * 65536 + (Memory.read d.regs (n + 1)).toNat * 256 := by
  have hfirst := LogicalDevice.reg_ofNat d (n := n) (by omega)
  have hsecond : d.reg (BitVec.ofNat 8 n + 1) = _ := LogicalDevice.reg_ofNat_add d (k := 1) h
  rw [address24, hfirst, hsecond, append_byte_toNat, append_byte_toNat, append_byte_toNat,
    show (0 : Byte).toNat = 0 from rfl]
  omega

theorem address32_toNat {n : Nat} (h : n + 3 < 256) :
    (address32 d (BitVec.ofNat 8 n)).toNat =
      (Memory.read d.regs n).toNat * 16777216 + (Memory.read d.regs (n + 1)).toNat * 65536 +
        (Memory.read d.regs (n + 2)).toNat * 256 + (Memory.read d.regs (n + 3)).toNat := by
  have hfirst := LogicalDevice.reg_ofNat d (n := n) (by omega)
  have hsecond : d.reg (BitVec.ofNat 8 n + 1) = _ := LogicalDevice.reg_ofNat_add d (k := 1) (by omega)
  have hthird : d.reg (BitVec.ofNat 8 n + 2) = _ := LogicalDevice.reg_ofNat_add d (k := 2) (by omega)
  have hfourth : d.reg (BitVec.ofNat 8 n + 3) = _ := LogicalDevice.reg_ofNat_add d (k := 3) h
  rw [address32, hfirst, hsecond, hthird, hfourth, append_byte_toNat, append_byte_toNat, append_byte_toNat]
  omega

theorem ioBase_toNat {k : Nat} (h : k < 8) :
    (ioBase d k).toNat =
      (Memory.read d.regs (0x60 + 2 * k)).toNat * 256 + (Memory.read d.regs (0x61 + 2 * k)).toNat := by
  rw [ioBase, append_byte_toNat, LogicalDevice.reg_ofNat d (by omega), LogicalDevice.reg_ofNat d (by omega)]

/-- The size in natural numbers: limit minus base wraps at 2^32 (D35). -/
theorem rangeSize_toNat {base lim : BitVec 32} {b l : Nat} (hbase : base.toNat = b) (hlim : lim.toNat = l) (k : Nat) :
    (rangeSize d k base lim).toNat =
      if d.ulMask.getLsbD k then (l + 4294967296 - b) % 4294967296 else l := by
  rw [rangeSize]
  split
  · rw [BitVec.toNat_sub, hbase, hlim]
    omega
  · exact hlim

/-- A 16-bit slot in natural numbers (R256, D35). -/
theorem mem16Range_toNat {n : Nat} (h : n + 4 < 256) (k : Nat) :
    let r := fun o : Nat => (Memory.read d.regs o).toNat
    let base := r n * 65536 + r (n + 1) * 256
    let lim := r (n + 3) * 65536 + r (n + 4) * 256
    (mem16Range d k (BitVec.ofNat 8 n)).base.toNat = base ∧
      (mem16Range d k (BitVec.ofNat 8 n)).size.toNat =
        if d.ulMask.getLsbD k then (lim + 4294967296 - base) % 4294967296 else lim := by
  intro r base lim
  have hbase : (address24 d (BitVec.ofNat 8 n)).toNat = base := address24_toNat d (by omega)
  have hlim : (address24 d (BitVec.ofNat 8 n + BitVec.ofNat 8 3)).toNat = lim := by
    rw [← BitVec.ofNat_add]
    exact address24_toNat d h
  exact ⟨hbase, rangeSize_toNat d hbase hlim k⟩

/-- A 32-bit slot in natural numbers (R256, D35). -/
theorem mem32Range_toNat {n : Nat} (h : n + 8 < 256) (k : Nat) :
    let r := fun o : Nat => (Memory.read d.regs o).toNat
    let base := r n * 16777216 + r (n + 1) * 65536 + r (n + 2) * 256 + r (n + 3)
    let lim := r (n + 5) * 16777216 + r (n + 6) * 65536 + r (n + 7) * 256 + r (n + 8)
    (mem32Range d k (BitVec.ofNat 8 n)).base.toNat = base ∧
      (mem32Range d k (BitVec.ofNat 8 n)).size.toNat =
        if d.ulMask.getLsbD k then (lim + 4294967296 - base) % 4294967296 else lim := by
  intro r base lim
  have hbase : (address32 d (BitVec.ofNat 8 n)).toNat = base := address32_toNat d (by omega)
  have hlim : (address32 d (BitVec.ofNat 8 n + BitVec.ofNat 8 5)).toNat = lim := by
    rw [← BitVec.ofNat_add]
    exact address32_toNat d h
  exact ⟨hbase, rangeSize_toNat d hbase hlim k⟩

theorem irqSelect_ofNat {n : Nat} (h : n + 1 < 256) :
    irqSelect d (BitVec.ofNat 8 n) =
      { line := Memory.read d.regs n
        level := (Memory.read d.regs (n + 1)).getLsbD 1
        type := (Memory.read d.regs (n + 1)).getLsbD 0 } := by
  have hline := LogicalDevice.reg_ofNat d (n := n) (by omega)
  have htype : d.reg (BitVec.ofNat 8 n + 1) = _ := LogicalDevice.reg_ofNat_add d (k := 1) h
  rw [irqSelect, hline, htype]

/-! ### The slots of the projection by their number (R43) -/

theorem project_mem {k : Nat} (h : k < 4) :
    (project d).mem[k]'h = mem16Range d k (BitVec.ofNat 8 (0x40 + 8 * k)) := by
  match k, h with
  | 0, _ | 1, _ | 2, _ | 3, _ => rfl

theorem project_mem32 {k : Nat} (h : k < 4) :
    (project d).mem32[k]'h = mem32Range d (4 + k) (BitVec.ofNat 8 (if k = 0 then 0x76 else 0x70 + 16 * k)) := by
  match k, h with
  | 0, _ | 1, _ | 2, _ | 3, _ => rfl

theorem project_io {k : Nat} (h : k < 8) : (project d).io[k]'h = ioBase d k := by
  match k, h with
  | 0, _ | 1, _ | 2, _ | 3, _ | 4, _ | 5, _ | 6, _ | 7, _ => rfl

theorem project_irq {k : Nat} (h : k < 2) : (project d).irq[k]'h = irqSelect d (BitVec.ofNat 8 (0x70 + 2 * k)) := by
  match k, h with
  | 0, _ | 1, _ => rfl

theorem project_dma {k : Nat} (h : k < 2) : (project d).dma[k]'h = d.reg (BitVec.ofNat 8 (0x74 + k)) := by
  match k, h with
  | 0, _ | 1, _ => rfl

end Projection

/-- Settles O52: the slot with the number asked for, its registers as digits of one natural number. -/
theorem projectionExposesSizes : Obligations.ProjectionExposesSizes := by
  intro d
  refine ⟨?mem, ?mem32, ?io, ?irqDma, rfl⟩
  case mem =>
    intro k hk
    have hslot := mem16Range_toNat d (n := 0x40 + 8 * k) (by omega) k
    have hoffset (j : Nat) : 0x40 + 8 * k + j = 0x40 + j + 8 * k := Nat.add_right_comm _ _ _
    simp only [hoffset] at hslot
    rw [project_mem d hk]
    exact hslot
  case mem32 =>
    intro k hk
    rw [project_mem32 d hk]
    exact mem32Range_toNat d (by split <;> omega) (4 + k)
  case io =>
    intro k hk
    rw [project_io d hk]
    exact ioBase_toNat d hk
  case irqDma =>
    intro k hk
    have hirq := irqSelect_ofNat d (n := 0x70 + 2 * k) (by omega)
    rw [Nat.add_right_comm] at hirq
    rw [project_irq d hk, project_dma d hk]
    exact ⟨hirq, LogicalDevice.reg_ofNat d (by omega)⟩

end Sys2Proof.Machine

/-! # Proofs: the ROM parser, from the bytes to the devices (R243 to R250) -/

namespace Sys2Proof.Machine

/-! ### The resource checksum -/

theorem foldl_add_toNat (bytes : List Byte) (b : Byte) :
    (bytes.foldl (· + ·) b).toNat = (b.toNat + (bytes.map BitVec.toNat).sum) % 256 := by
  induction bytes generalizing b with
  | nil => simp only [List.foldl_nil, List.map_nil, List.sum_nil]; omega
  | cons x xs ih =>
    rw [List.foldl_cons, ih, List.map_cons, List.sum_cons, BitVec.toNat_add]
    omega

theorem resourceChecksum_toNat (rom : List Byte) :
    (resourceChecksum rom).toNat =
      (256 - (((rom.take (rom.length - 1)).drop 9).map BitVec.toNat).sum % 256) % 256 := by
  have hsum := foldl_add_toNat ((rom.take (rom.length - 1)).drop descriptorStart) 0
  rw [resourceChecksum, BitVec.toNat_sub, hsum]
  simp [descriptorStart]

theorem storeResourceChecksum_long {rom : List Byte} (h : 10 ≤ rom.length) :
    storeResourceChecksum rom = rom.set (rom.length - 1) (resourceChecksum rom) := if_pos h

theorem storeResourceChecksum_short {rom : List Byte} (h : rom.length < 10) : storeResourceChecksum rom = rom :=
  if_neg (Nat.not_le.mpr h)

/-- The stored stream: the bytes it had but the last, then the checksum. -/
theorem drop_storeResourceChecksum {rom : List Byte} (h : 10 ≤ rom.length) :
    (storeResourceChecksum rom).drop 9 = (rom.take (rom.length - 1)).drop 9 ++ [resourceChecksum rom] := by
  have hset := List.set_eq_take_append_cons_drop (l := rom) (i := rom.length - 1) (a := resourceChecksum rom)
  have hlast : rom.drop (rom.length - 1 + 1) = [] := List.drop_eq_nil_of_le (by omega)
  rw [storeResourceChecksum_long h, hset, if_pos (by omega), hlast,
    List.drop_append_of_le_length (by rw [List.length_take]; omega)]

/-- Settles O40: the sum of the stream is the sum of the bytes the checksum covers plus its negative. -/
theorem resourceChecksumMakesTheSumZero : Obligations.ResourceChecksumMakesTheSumZero := by
  intro rom
  by_cases hlong : 10 ≤ rom.length
  case pos =>
    refine ⟨?length, ?others, fun _ => ?sum, fun hshort => absurd hshort (by omega)⟩
    case length => rw [storeResourceChecksum_long hlong, List.length_set]
    case others =>
      intro k hk
      rw [storeResourceChecksum_long hlong, List.getElem?_set_ne (by omega)]
    case sum =>
      rw [drop_storeResourceChecksum hlong, List.map_append, List.sum_append, List.map_singleton, List.sum_singleton,
        resourceChecksum_toNat]
      omega
  case neg =>
    rw [storeResourceChecksum_short (by omega)]
    exact ⟨rfl, fun _ _ => rfl, fun h => absurd h hlong, fun _ => rfl⟩

/-! ### The first item of a stream -/

theorem word16_toNat (lo hi : Byte) : (word16 lo hi).toNat = hi.toNat * 256 + lo.toNat :=
  append_byte_toNat hi lo

/-- The two length bytes of a large item, put together (R244). -/
theorem word16_ofNat {n : Nat} (h : n < 65536) :
    (word16 (BitVec.ofNat 8 (n % 256)) (BitVec.ofNat 8 (n / 256))).toNat = n := by
  rw [word16_toNat, BitVec.toNat_ofNat, BitVec.toNat_ofNat]
  omega

theorem getLsbD_seven_iff (b : Byte) : b.getLsbD 7 = true ↔ 128 ≤ b.toNat := by
  have hmsb : b.msb = b.getLsbD 7 := rfl
  rw [← hmsb, BitVec.msb_eq_decide, decide_eq_true_iff]

section FirstByte

variable {b : Byte}

theorem nextItem_small (h : b.toNat < 128) (rest : List Byte) :
    nextItem (b :: rest) =
      if b.toNat % 8 ≤ rest.length then
        some (⟨false, b.toNat / 8 % 16, rest.take (b.toNat % 8)⟩, rest.drop (b.toNat % 8))
      else none :=
  if_neg (mt (getLsbD_seven_iff b).mp (Nat.not_le.mpr h))

theorem nextItem_large (h : 128 ≤ b.toNat) (lo hi : Byte) (more : List Byte) :
    nextItem (b :: lo :: hi :: more) =
      if (word16 lo hi).toNat ≤ more.length then
        some (⟨true, b.toNat % 128, more.take (word16 lo hi).toNat⟩, more.drop (word16 lo hi).toNat)
      else none :=
  if_pos ((getLsbD_seven_iff b).mpr h)

/-- A large item whose two length bytes do not stand in the buffer (D33). -/
theorem nextItem_large_truncated (h : 128 ≤ b.toNat) {rest : List Byte} (hrest : rest.length < 2) :
    nextItem (b :: rest) = none := by
  have hlarge := (getLsbD_seven_iff b).mpr h
  match rest with
  | [] => exact if_pos hlarge
  | [_] => exact if_pos hlarge
  | _ :: _ :: _ => exact absurd hrest (by simp only [List.length_cons]; omega)

end FirstByte

/-- A small item's header byte: the tag in bits 6:3, the length in bits 2:0 (R244). -/
theorem nextItem_smallHeader {tag n : Nat} (htag : tag < 16) (hn : n < 8) (bytes : List Byte) :
    nextItem (BitVec.ofNat 8 (8 * tag + n) :: bytes) =
      if n ≤ bytes.length then some (⟨false, tag, bytes.take n⟩, bytes.drop n) else none := by
  have hbyte : (BitVec.ofNat 8 (8 * tag + n)).toNat = 8 * tag + n := by
    rw [BitVec.toNat_ofNat]
    omega
  have hlength : (8 * tag + n) % 8 = n := by omega
  have htag' : (8 * tag + n) / 8 % 16 = tag := by omega
  rw [nextItem_small (by omega), hbyte, hlength, htag']

theorem largeHeader_toNat {tag : Nat} (htag : tag < 128) : (BitVec.ofNat 8 (128 + tag)).toNat = 128 + tag := by
  rw [BitVec.toNat_ofNat]
  omega

/-- A large item's three header bytes: the tag in bits 6:0 of the first, then the length, low byte first (R244). -/
theorem nextItem_largeHeader {tag n : Nat} (htag : tag < 128) (hn : n < 65536) (bytes : List Byte) :
    nextItem (BitVec.ofNat 8 (128 + tag) :: BitVec.ofNat 8 (n % 256) :: BitVec.ofNat 8 (n / 256) :: bytes) =
      if n ≤ bytes.length then some (⟨true, tag, bytes.take n⟩, bytes.drop n) else none := by
  have hbyte := largeHeader_toNat htag
  have htag' : (128 + tag) % 128 = tag := by omega
  rw [nextItem_large (by omega), word16_ofNat hn, hbyte, htag']

/-! ### The items of a stream -/

theorem romItems_of_none {bytes : List Byte} (h : nextItem bytes = none) (n : Nat) : romItems n bytes = [] := by
  cases n with
  | zero => rfl
  | succ n => rw [romItems, h]

theorem romItems_of_some {bytes rest : List Byte} {item : RomItem} (h : nextItem bytes = some (item, rest)) (n : Nat) :
    romItems (n + 1) bytes = item :: romItems n rest := by
  rw [romItems, h]

/-- Every item takes a byte, so a round for each byte is enough to reach the end of the stream. -/
theorem romItems_eq_of_length_le {m n : Nat} {bytes : List Byte} (hm : bytes.length ≤ m) (hn : bytes.length ≤ n) :
    romItems m bytes = romItems n bytes := by
  induction m generalizing n bytes with
  | zero =>
    obtain rfl := List.eq_nil_of_length_eq_zero (Nat.le_zero.mp hm)
    exact (romItems_of_none rfl n).symm
  | succ m ih =>
    cases hnext : nextItem bytes with
    | none => rw [romItems_of_none hnext, romItems_of_none hnext]
    | some found =>
      obtain ⟨item, rest⟩ := found
      have hlt := nextItem_rest_length_lt hnext
      obtain ⟨n, rfl⟩ : ∃ k, n = k + 1 := ⟨n - 1, by omega⟩
      rw [romItems_of_some hnext, romItems_of_some hnext, ih (n := n) (by omega) (by omega)]

/-- The stream behind the nine header bytes. -/
theorem descriptorItems_append {header : List Byte} (h : header.length = 9) (bytes : List Byte) :
    descriptorItems (header ++ bytes) = romItems (9 + bytes.length) bytes := by
  rw [descriptorItems, List.length_append, h, show descriptorStart = header.length from h.symm, List.drop_left]

/-- Settles O59: the two headers read back, and a round of the walk. -/
theorem descriptorStreamIsReadItemByItem : Obligations.DescriptorStreamIsReadItemByItem := by
  refine ⟨?small, ?large, ?smallTruncated, ?largeTruncated, ?headerTruncated, rfl, ?empty, ?item⟩
  case small =>
    intro tag payload rest htag hlength
    rw [nextItem_smallHeader htag hlength, if_pos (by rw [List.length_append]; omega), List.take_left, List.drop_left]
  case large =>
    intro tag payload rest htag hlength
    rw [nextItem_largeHeader htag hlength, if_pos (by rw [List.length_append]; omega), List.take_left, List.drop_left]
  case smallTruncated =>
    intro tag n bytes htag hn hshort
    rw [nextItem_smallHeader htag hn, if_neg (by omega)]
  case largeTruncated =>
    intro tag n bytes htag hn hshort
    rw [nextItem_largeHeader htag hn, if_neg (by omega)]
  case headerTruncated =>
    intro tag bytes htag hshort
    have hbyte := largeHeader_toNat htag
    exact nextItem_large_truncated (by omega) hshort
  case empty =>
    intro rom hnone
    exact romItems_of_none hnone _
  case item =>
    intro header bytes rest item hheader hitem
    have hlt := nextItem_rest_length_lt hitem
    rw [descriptorItems_append hheader, descriptorItems_append hheader, Nat.add_comm 9, romItems_of_some hitem,
      romItems_eq_of_length_le (n := 9 + rest.length) (by omega) (by omega)]

/-! ### The mask bit of a slot -/

theorem getLsbD_slotBit (j : Nat) {k : Nat} (hk : k < 8) : ((1 : Byte) <<< j).getLsbD k = decide (k = j) := by
  have htwo : (1 : Byte) <<< j = BitVec.twoPow 8 j := (BitVec.twoPow_eq 8 j).symm
  rw [htwo, BitVec.getLsbD_twoPow]
  by_cases hkj : k = j
  · subst hkj
    simp [hk]
  · simp [hkj, Ne.symm hkj]

theorem mergeMask_set (merge : UlMaskMerge) (mask : Byte) (j : Nat) :
    mergeMask merge mask j true = setMaskBit mask j := rfl

theorem mergeMask_clear_or (mask : Byte) (j : Nat) : mergeMask .or mask j false = mask := rfl

theorem mergeMask_clear_assign (mask : Byte) (j : Nat) : mergeMask .assign mask j false = clearMaskBit mask j := rfl

/-- A set flag sets the slot's bit, a clear one keeps or clears it (R248, D7); the other bits stay. -/
theorem getLsbD_mergeMask (merge : UlMaskMerge) (mask : Byte) (j : Nat) (flag : Bool) {k : Nat} (hk : k < 8) :
    (mergeMask merge mask j flag).getLsbD k =
      if k = j then (flag || (merge == .or && mask.getLsbD k)) else mask.getLsbD k := by
  have hbit := getLsbD_slotBit j hk
  cases flag with
  | true =>
    rw [mergeMask_set, setMaskBit, BitVec.getLsbD_or, hbit]
    by_cases hkj : k = j <;> simp [hkj]
  | false =>
    cases merge with
    | or => simp [mergeMask_clear_or]
    | assign =>
      rw [mergeMask_clear_assign, clearMaskBit, BitVec.getLsbD_and, BitVec.getLsbD_not, hbit]
      by_cases hkj : k = j <;> simp [hkj, hk]

theorem upperLimitFlag_eq (payload : List Byte) :
    upperLimitFlag payload = (payload.head?.map fun b => b.getLsbD 2).getD false := by
  cases payload <;> rfl

/-! ### Memory items -/

section MemoryRange

variable {p : Params} {ps : ParserState} {d : LogicalDevice} {fam : MemFamily}

theorem ParserState.slot_eq (ps : ParserState) (fam : MemFamily) :
    ps.slot fam = if fam = .bits16 then ps.m16 else ps.m32 := by
  cases fam <;> rfl

theorem ParserState.takeSlot_eq (ps : ParserState) (fam : MemFamily) :
    ps.takeSlot fam =
      { ps with
        m16 := if fam = .bits16 then ps.m16 + 1 else ps.m16
        m32 := if fam = .bits32 then ps.m32 + 1 else ps.m32 } := by
  cases fam <;> rfl

theorem MemFamily.maskBit_eq (fam : MemFamily) (n : Nat) :
    fam.maskBit n = (if fam = .bits16 then 0 else 4) + n := by
  cases fam
  · exact (Nat.zero_add n).symm
  · rfl

theorem ParserState.memoryRange_unopened (hopen : ps.current = none) (fam : MemFamily) (payload : List Byte) :
    ps.memoryRange p fam payload = .ok ps := by
  rw [ParserState.memoryRange, hopen]

theorem ParserState.memoryRange_full (hopen : ps.current = some d) (hfull : 4 ≤ ps.slot fam) (payload : List Byte) :
    ps.memoryRange p fam payload = .error fam := by
  rw [ParserState.memoryRange, hopen]
  exact if_pos hfull

theorem ParserState.memoryRange_free (hopen : ps.current = some d) (hfree : ps.slot fam < 4) (payload : List Byte) :
    ps.memoryRange p fam payload =
      .ok { ps.takeSlot fam with
        current := some { d with
          ulMask := mergeMask p.ulMaskMerge d.ulMask (fam.maskBit (ps.slot fam)) (upperLimitFlag payload) } } := by
  rw [ParserState.memoryRange, hopen]
  exact if_neg (Nat.not_le.mpr hfree)

end MemoryRange

/-- Settles O43: no open device, no free slot, or the next slot with its bit merged into the mask. -/
theorem memoryItemsTakeFourSlots : Obligations.MemoryItemsTakeFourSlots := by
  intro p ps fam payload taken
  have htaken : taken = ps.slot fam := (ParserState.slot_eq ps fam).symm
  rw [htaken]
  refine ⟨fun hopen => ParserState.memoryRange_unopened hopen fam payload,
    fun d hopen hfull => ParserState.memoryRange_full hopen hfull payload, ?free⟩
  intro d hopen hfree
  refine ⟨mergeMask p.ulMaskMerge d.ulMask (fam.maskBit (ps.slot fam)) (upperLimitFlag payload), ?next, ?bits⟩
  case next => rw [ParserState.memoryRange_free hopen hfree, ParserState.takeSlot_eq]
  case bits =>
    intro k hk
    rw [getLsbD_mergeMask _ _ _ _ hk, upperLimitFlag_eq, MemFamily.maskBit_eq]

/-! ### The items by their tag -/

section Act

variable {p : Params} {ps : ParserState} {d : LogicalDevice}

theorem ParserState.devices_unopened (hopen : ps.current = none) : ps.devices p = ps.finished := by
  rw [ParserState.devices, hopen]

theorem ParserState.devices_open (hopen : ps.current = some d) : ps.devices p = ps.finished ++ [resetLdRegs p d] := by
  rw [ParserState.devices, hopen]

/-- Five tags have a rule of their own: 2, 6 and 7 of the small items, 1 and 5 of the large ones (R245 to R249). -/
theorem ParserState.act_skipped {item : RomItem}
    (hsmall : item.large = false → item.tag ≠ 2 ∧ item.tag ≠ 6 ∧ item.tag ≠ 7)
    (hlarge : item.large = true → item.tag ≠ 1 ∧ item.tag ≠ 5) : ps.act p item = .ok ps := by
  unfold ParserState.act
  split
  next hform htag => obtain ⟨hne, -, -⟩ := hsmall hform; exact absurd htag hne
  next hform htag => obtain ⟨-, hne, -⟩ := hsmall hform; exact absurd htag hne
  next hform htag => obtain ⟨-, -, hne⟩ := hsmall hform; exact absurd htag hne
  next hform htag => obtain ⟨hne, -⟩ := hlarge hform; exact absurd htag hne
  next hform htag => obtain ⟨-, hne⟩ := hlarge hform; exact absurd htag hne
  next => rfl

end Act

/-- Settles O60: the open device, if any, is finished; every other tag is a case of its own. -/
theorem itemsActByTheirTag : Obligations.ItemsActByTheirTag := by
  intro p ps payload
  have hdevice : ps.act p ⟨false, 2, payload⟩ = .ok (ps.openDevice p) := rfl
  refine ⟨?first, ?later, rfl, rfl, rfl, rfl, ?small, ?large⟩
  case first =>
    intro hopen
    rw [hdevice, ParserState.openDevice, ParserState.devices_unopened hopen]
  case later =>
    intro d hopen
    rw [hdevice, ParserState.openDevice, ParserState.devices_open hopen, List.length_append, List.length_singleton]
  case small =>
    intro tag h2 h6 h7
    exact ParserState.act_skipped (fun _ => ⟨h2, h6, h7⟩) (fun h => absurd h Bool.false_ne_true)
  case large =>
    intro tag h1 h5
    exact ParserState.act_skipped (fun h => absurd h.symm Bool.false_ne_true) (fun _ => ⟨h1, h5⟩)

/-! ### Dependent-function groups -/

section Groups

variable {p : Params} {ps ps' : ParserState} {item : RomItem}

theorem ParserState.startDependent_first (h : ps.inDf = false) :
    ps.startDependent = { ps with s16 := ps.m16, s32 := ps.m32, inDf := true } := by
  rw [ParserState.startDependent, h, if_neg Bool.false_ne_true]

theorem ParserState.startDependent_later (h : ps.inDf = true) :
    ps.startDependent = { ps with m16 := ps.s16, m32 := ps.s32 } := if_pos h

theorem ParserState.actAll_cons_ok (h : ps.act p item = .ok ps') (items : List RomItem) :
    ps.actAll p (item :: items) = ps'.actAll p items := by
  rw [ParserState.actAll, h]

theorem ParserState.actAll_cons_error {fam : MemFamily} (h : ps.act p item = .error fam) (items : List RomItem) :
    ps.actAll p (item :: items) = .error fam := by
  rw [ParserState.actAll, h]

theorem ParserState.act_memory16 (p : Params) (ps : ParserState) (payload : List Byte) :
    ps.act p ⟨true, 1, payload⟩ = ps.memoryRange p .bits16 payload := rfl

theorem ParserState.act_startDependent (p : Params) (ps : ParserState) (priority : List Byte) :
    ps.act p ⟨false, 6, priority⟩ = .ok ps.startDependent := rfl

/-- An alternative: its start, whose priority byte, if any, is skipped, and one 16-bit range. -/
theorem ParserState.actAll_alternative {d : LogicalDevice} (hstart : ps.startDependent = ps')
    (hopen : ps'.current = some d) (hfree : ps'.m16 < 4) (priority payload : List Byte) (items : List RomItem) :
    ps.actAll p (⟨false, 6, priority⟩ :: ⟨true, 1, payload⟩ :: items) =
      ParserState.actAll p
        { ps' with
          m16 := ps'.m16 + 1
          current := some { d with
            ulMask := mergeMask p.ulMaskMerge d.ulMask ps'.m16 (upperLimitFlag payload) } } items := by
  subst hstart
  rw [ParserState.actAll_cons_ok (ParserState.act_startDependent p ps priority)]
  refine ParserState.actAll_cons_ok ?_ items
  rw [ParserState.act_memory16, ParserState.memoryRange_free (fam := .bits16) hopen hfree]
  rfl

end Groups

/-- Settles O42: the first alternative starts by saving the counters, the second by restoring them. -/
theorem dependentAlternativesTakeTheSameSlot : Obligations.DependentAlternativesTakeTheSameSlot := by
  refine ⟨fun ps => ParserState.startDependent_first, fun ps => ParserState.startDependent_later, ?alternatives⟩
  intro p ps d a b pr qr hopen hgroup hfree
  have hfirst := ParserState.startDependent_first hgroup
  rw [ParserState.actAll_alternative hfirst hopen hfree]
  exact ParserState.actAll_alternative
    (d := { d with ulMask := mergeMask p.ulMaskMerge d.ulMask ps.m16 (upperLimitFlag a) })
    (ParserState.startDependent_later (by rfl)) (by rfl) (by exact hfree) qr b []

/-! ### The numbers and the defaults of the devices -/

/-- The item is a logical-device tag (R245). -/
def RomItem.opensDevice (item : RomItem) : Bool := !item.large && item.tag == 2

/-- After `n` logical-device items: the devices, the open one included, are numbered from 0 in order (modulo 256,
log 16), and the finished ones hold their defaults. -/
structure ParserState.Numbered (p : Params) (n : Nat) (ps : ParserState) : Prop where
  numbers : (ps.devices p).map LogicalDevice.number = (List.range n).map (BitVec.ofNat 8)
  defaults : ∀ d ∈ ps.finished, d = resetLdRegs p d

theorem RomItem.opensDevice_iff {item : RomItem} :
    item.opensDevice = true ↔ item.large = false ∧ item.tag = 2 := by
  rw [RomItem.opensDevice, Bool.and_eq_true, Bool.not_eq_true', beq_iff_eq]

section Numbering

variable {p : Params} {ps ps' : ParserState} {n : Nat}

theorem resetLdRegs_eq (p : Params) (d : LogicalDevice) :
    resetLdRegs p d = { d with regs := (resetLdRegs p d).regs } := by
  calc resetLdRegs p d
    _ = ⟨(resetLdRegs p d).number, (resetLdRegs p d).regs, (resetLdRegs p d).ulMask⟩ := rfl
    _ = { d with regs := (resetLdRegs p d).regs } := by rw [resetLdRegs_number, resetLdRegs_ulMask]

theorem resetLdRegs_resetLdRegs (p : Params) (d : LogicalDevice) :
    resetLdRegs p (resetLdRegs p d) = resetLdRegs p d := by
  rw [resetLdRegs_eq p d, resetLdRegs_regs_irrelevant, ← resetLdRegs_eq]

/-- The numbers are those of the finished devices and of the open one. -/
theorem ParserState.devices_number (p : Params) (ps : ParserState) :
    (ps.devices p).map LogicalDevice.number =
      ps.finished.map LogicalDevice.number ++ (ps.current.map LogicalDevice.number).toList := by
  cases hopen : ps.current with
  | none => simp [ParserState.devices_unopened hopen]
  | some d => simp [ParserState.devices_open hopen]

theorem ParserState.Numbered.devices_defaults (h : ps.Numbered p n) : ∀ d ∈ ps.devices p, d = resetLdRegs p d := by
  intro d hd
  cases hopen : ps.current with
  | none =>
    rw [ParserState.devices_unopened hopen] at hd
    exact h.defaults d hd
  | some e =>
    rw [ParserState.devices_open hopen, List.mem_append, List.mem_singleton] at hd
    obtain hd | rfl := hd
    · exact h.defaults d hd
    · exact (resetLdRegs_resetLdRegs p e).symm

theorem ParserState.Numbered.length_devices (h : ps.Numbered p n) : (ps.devices p).length = n := by
  simpa using congrArg List.length h.numbers

theorem ParserState.start_numbered (p : Params) : ParserState.start.Numbered p 0 :=
  ⟨rfl, fun _ hd => absurd hd List.not_mem_nil⟩

theorem ParserState.Numbered.openDevice (h : ps.Numbered p n) : (ps.openDevice p).Numbered p (n + 1) := by
  refine ⟨?_, h.devices_defaults⟩
  have hopened : (ps.openDevice p).devices p = ps.devices p ++
    [resetLdRegs p { number := BitVec.ofNat 8 (ps.devices p).length, regs := [], ulMask := 0 }] := rfl
  rw [hopened, List.map_append, h.numbers, h.length_devices, List.range_succ, List.map_append, List.map_singleton,
    List.map_singleton, resetLdRegs_number]

/-- The parser's devices and their numbers are the same, whatever masks they have. -/
def ParserState.SameDevices (ps ps' : ParserState) : Prop :=
  ps'.finished = ps.finished ∧ ps'.current.map LogicalDevice.number = ps.current.map LogicalDevice.number

theorem ParserState.Numbered.of_sameDevices (h : ps.Numbered p n) (hsame : ps.SameDevices ps') : ps'.Numbered p n := by
  obtain ⟨hfinished, hcurrent⟩ := hsame
  refine ⟨?_, hfinished ▸ h.defaults⟩
  rw [ParserState.devices_number, hfinished, hcurrent, ← ParserState.devices_number p, h.numbers]

theorem ParserState.sameDevices_startDependent (ps : ParserState) : ps.SameDevices ps.startDependent := by
  cases hgroup : ps.inDf with
  | false => rw [ParserState.startDependent_first hgroup]; exact ⟨rfl, rfl⟩
  | true => rw [ParserState.startDependent_later hgroup]; exact ⟨rfl, rfl⟩

theorem ParserState.sameDevices_memoryRange {fam : MemFamily} {payload : List Byte}
    (h : ps.memoryRange p fam payload = .ok ps') : ps.SameDevices ps' := by
  cases hopen : ps.current with
  | none =>
    rw [ParserState.memoryRange_unopened hopen] at h
    cases h
    exact ⟨rfl, rfl⟩
  | some d =>
    by_cases hfull : 4 ≤ ps.slot fam
    · rw [ParserState.memoryRange_full hopen hfull] at h
      cases h
    · rw [ParserState.memoryRange_free hopen (Nat.not_le.mp hfull), ParserState.takeSlot_eq] at h
      cases h
      exact ⟨rfl, by rw [hopen]; rfl⟩

/-- An item opens the next device, or leaves the devices and their numbers. -/
theorem ParserState.act_ok {item : RomItem} (h : ps.act p item = .ok ps') :
    (item.opensDevice = true ∧ ps' = ps.openDevice p) ∨ (item.opensDevice = false ∧ ps.SameDevices ps') := by
  obtain ⟨large, tag, payload⟩ := item
  unfold ParserState.act at h
  split at h
  next hlarge htag =>
    cases hlarge; cases htag; cases h
    exact .inl ⟨rfl, rfl⟩
  next hlarge htag =>
    cases hlarge; cases htag; cases h
    exact .inr ⟨rfl, ps.sameDevices_startDependent⟩
  next hlarge htag =>
    cases hlarge; cases htag; cases h
    exact .inr ⟨rfl, rfl, rfl⟩
  next hlarge htag =>
    cases hlarge; cases htag
    exact .inr ⟨rfl, ParserState.sameDevices_memoryRange h⟩
  next hlarge htag =>
    cases hlarge; cases htag
    exact .inr ⟨rfl, ParserState.sameDevices_memoryRange h⟩
  next hdevice _ _ _ _ =>
    cases h
    refine .inr ⟨?_, rfl, rfl⟩
    rw [Bool.eq_false_iff]
    intro hopens
    obtain ⟨hsmall, htag⟩ := RomItem.opensDevice_iff.mp hopens
    exact hdevice hsmall htag

theorem ParserState.Numbered.actAll {items : List RomItem} (h : ps.Numbered p n) (hrun : ps.actAll p items = .ok ps') :
    ps'.Numbered p (n + (items.filter RomItem.opensDevice).length) := by
  induction items generalizing ps n with
  | nil =>
    cases hrun
    exact h
  | cons item items ih =>
    cases hact : ps.act p item with
    | error fam =>
      rw [ParserState.actAll_cons_error hact] at hrun
      cases hrun
    | ok next =>
      rw [ParserState.actAll_cons_ok hact] at hrun
      obtain ⟨hopens, rfl⟩ | ⟨hopens, hsame⟩ := ParserState.act_ok hact
      · rw [List.filter_cons_of_pos hopens, List.length_cons, Nat.add_comm _ 1, ← Nat.add_assoc]
        exact ih h.openDevice hrun
      · rw [List.filter_cons_of_neg (by rw [hopens]; exact Bool.false_ne_true)]
        exact ih (h.of_sameDevices hsame) hrun

theorem ParserState.Numbered.number_eq {k : Nat} {d : LogicalDevice} (h : ps.Numbered p n)
    (hget : (ps.devices p)[k]? = some d) : d.number = BitVec.ofNat 8 k := by
  obtain ⟨hk, -⟩ := List.getElem?_eq_some_iff.mp hget
  have hnumber := congrArg (·[k]?) h.numbers
  rw [h.length_devices] at hk
  simpa [hget, hk] using hnumber

end Numbering

/-! ### A whole ROM -/

theorem parseRom_of_error {p : Params} {rom : List Byte} {fam : MemFamily}
    (h : ParserState.start.actAll p (descriptorItems rom) = .error fam) : parseRom p rom = .error fam := by
  rw [parseRom, h]

theorem parseRom_of_ok {p : Params} {rom : List Byte} {ps : ParserState}
    (h : ParserState.start.actAll p (descriptorItems rom) = .ok ps) : parseRom p rom = .ok (ps.devices p) := by
  rw [parseRom, h]

theorem parseRom_ok {p : Params} {rom : List Byte} {lds : List LogicalDevice} (h : parseRom p rom = .ok lds) :
    ∃ ps, ParserState.start.actAll p (descriptorItems rom) = .ok ps ∧ lds = ps.devices p := by
  cases hrun : ParserState.start.actAll p (descriptorItems rom) with
  | error fam =>
    rw [parseRom_of_error hrun] at h
    cases h
  | ok ps =>
    rw [parseRom_of_ok hrun] at h
    cases h
    exact ⟨ps, rfl, rfl⟩

/-- Settles O41: the numbering holds at the start and every item keeps it. -/
theorem parsedDevicesAreNumberedWithDefaults : Obligations.ParsedDevicesAreNumberedWithDefaults := by
  refine ⟨?devices, rfl, fun _ _ => rfl, fun _ _ _ _ items hact => ParserState.actAll_cons_ok hact items,
    fun _ _ _ items _ hact => ParserState.actAll_cons_error hact items,
    fun p rom => ⟨fun _ => parseRom_of_error, ?unopened, ?lastOpen⟩⟩
  case devices =>
    intro p rom lds hparse
    obtain ⟨ps, hrun, rfl⟩ := parseRom_ok hparse
    have hnumbered := (ParserState.start_numbered p).actAll hrun
    rw [Nat.zero_add] at hnumbered
    exact ⟨hnumbered.length_devices,
      fun k d hget => ⟨hnumbered.number_eq hget, hnumbered.devices_defaults d (List.mem_of_getElem? hget)⟩⟩
  case unopened =>
    intro ps hrun hopen
    rw [parseRom_of_ok hrun, ParserState.devices_unopened hopen]
  case lastOpen =>
    intro ps d hrun hopen
    rw [parseRom_of_ok hrun, ParserState.devices_open hopen]

end Sys2Proof.Machine

/-! # Proofs: the host calls add_card and set_csn (R240, R258) -/

namespace Sys2Proof.Machine

theorem exec_addCard (rom : List Byte) (hooks : Hooks) (s : State) :
    exec (.addCard rom hooks) s = execAddCard rom hooks s := rfl

theorem exec_setCsn (card : BitVec 32) (v : Byte) (s : State) :
    exec (.setCsn card v) s = execSetCsn card v s := rfl

/-! ### add_card, by what its ROM is -/

section AddCard

variable {s : State} {rom : List Byte}

theorem execAddCard_parsed {lds : List LogicalDevice} (hlive : s.Live) (hlength : 9 ≤ rom.length)
    (hparse : parseRom s.cfg (storeResourceChecksum rom) = .ok lds) (hooks : Hooks) :
    execAddCard rom hooks s =
      .next ((s.clearOutputs.withCards (s.cards ++ [Card.attached (storeResourceChecksum rom) lds hooks])).reply
        (.card s.cards.length)) := by
  have hheader : ¬ rom.length < minRomLen := Nat.not_lt.mpr hlength
  rw [execAddCard, operate_of_live hlive, if_neg hheader, State.clearOutputs_cfg, hparse]
  rfl

theorem execAddCard_fatal {fam : MemFamily} (hlive : s.Live) (hlength : 9 ≤ rom.length)
    (hparse : parseRom s.cfg (storeResourceChecksum rom) = .error fam) (hooks : Hooks) :
    execAddCard rom hooks s = raiseFatal s.clearOutputs .tooManyMemSlots fam.info := by
  have hheader : ¬ rom.length < minRomLen := Nat.not_lt.mpr hlength
  rw [execAddCard, operate_of_live hlive, if_neg hheader, State.clearOutputs_cfg, hparse]

theorem execAddCard_short (hlive : s.Live) (hshort : rom.length < 9) (hooks : Hooks) :
    execAddCard rom hooks s = .refused (.romTooShort rom.length) := by
  rw [execAddCard, operate_of_live hlive]
  exact if_pos hshort

end AddCard

theorem MemFamily.info_eq (fam : MemFamily) : fam.info = if fam = .bits16 then 16 else 32 := by
  cases fam <;> rfl

/-- Settles O39: the length is checked, then the parser answers. -/
theorem addCardAttachesAtTheTail : Obligations.AddCardAttachesAtTheTail := by
  intro s rom hooks hlive
  rw [exec_addCard]
  refine ⟨?parsed, ?fatal, fun hshort => execAddCard_short hlive hshort hooks⟩
  case parsed =>
    intro lds hlength hparse
    exact execAddCard_parsed hlive hlength hparse hooks
  case fatal =>
    intro fam hlength hparse
    rw [execAddCard_fatal hlive hlength hparse, raiseFatal_eq, MemFamily.info_eq]
    rfl

/-! ### set_csn -/

/-- Settles O44: the handle is a place of the chain or none. -/
theorem setCsnForcesTheCsn : Obligations.SetCsnForcesTheCsn := by
  intro s card v hlive
  rw [exec_setCsn, execSetCsn, operate_of_live hlive, State.clearOutputs_cards]
  refine ⟨?attached, ?missing⟩
  case attached =>
    intro c hcard
    rw [hcard]
    rfl
  case missing =>
    intro hlength
    rw [List.getElem?_eq_none hlength]
    rfl

end Sys2Proof.Machine

/-! # Proofs: what stops, what completes, and the fatal errors (R281, R284 to R286, R289, R300) -/

namespace Sys2Proof.Machine

/-! ### The guard before every operation but machine_init -/

/-- The result is that of some body behind the guard for a live controller. -/
def Guarded (s : State) (r : Result) : Prop := ∃ body, r = operate s body

theorem operate_guarded (s : State) (body : State → Result) : Guarded s (operate s body) := ⟨body, rfl⟩

theorem dataRead_guarded (s : State) (body : State → Result) : Guarded s (dataRead s body) := operate_guarded s _

theorem constantRead_guarded (s : State) (b : Byte) : Guarded s (constantRead s b) := dataRead_guarded s _

theorem readDeviceReg_guarded (s : State) (r : Byte) : Guarded s (readDeviceReg s r) := dataRead_guarded s _

theorem writeDeviceReg_guarded (s : State) (r : Byte) (f : Byte → Byte) (fires : Bool) :
    Guarded s (writeDeviceReg s r f fires) := operate_guarded s _

theorem exec_guarded {i : Instr} (hinit : i ≠ .machineInit) (s : State) : Guarded s (exec i s) := by
  cases i with dsimp only [exec]
  | machineInit => exact absurd rfl hinit
  | dwActivate | dwIoRangeCheck | dwGeneric => exact writeDeviceReg_guarded s _ _ _
  | drActivate | drIoRangeCheck | drGeneric => exact readDeviceReg_guarded s _
  | drSetRdPort | drConfigControl | drWake | drUnrecognized => exact constantRead_guarded s _
  | drSerialIsolation | drResourceData | drStatus | drCsn | drLdn | drVendorCard | drVendorLd =>
    exact dataRead_guarded s _
  | _ => exact operate_guarded s _

theorem operate_next_live {s t : State} {body : State → Result} (h : operate s body = .next t) : s.Live :=
  have ⟨halive, hfault, _⟩ := operate_next h
  ⟨halive, hfault⟩

theorem exec_next_live {i : Instr} {s t : State} (hinit : i ≠ .machineInit) (h : exec i s = .next t) : s.Live := by
  obtain ⟨body, hbody⟩ := exec_guarded hinit s
  exact operate_next_live (hbody.symm.trans h)

/-! ### Only the host's own call issues machine_init -/

theorem decodeDataWrite_ne_machineInit (reg v : Byte) : decodeDataWrite reg v ≠ .machineInit := by
  rw [decodeDataWrite_eq]
  cases regClass reg <;> nofun

theorem decodeDataRead_ne_machineInit (reg : Byte) : decodeDataRead reg ≠ .machineInit := by
  rw [decodeDataRead_eq]
  cases regClass reg <;> nofun

theorem routeWrite_operation {s : State} {a : Port} {v : Byte} {bytes : List Byte}
    (h : routeWrite s a v = .operation bytes) : bytes = record 0 s.reg [v] ∨ bytes = record 1 s.reg [v] := by
  unfold routeWrite at h
  split at h
  case isTrue =>
    split at h
    case isTrue => cases h
    case isFalse => cases h; exact .inl rfl
  case isFalse =>
    split at h
    case isTrue => cases h; exact .inr rfl
    case isFalse => cases h

theorem routeRead_operation {s : State} {a : Port} {bytes : List Byte} (h : routeRead s a = .operation bytes) :
    bytes = record 2 s.reg [] ∨ bytes = record 3 s.reg [a.extractLsb' 0 8, a.extractLsb' 8 8] := by
  unfold routeRead at h
  split at h
  case isTrue => cases h
  case isFalse =>
    split at h
    case isTrue => cases h; exact .inl rfl
    case isFalse => cases h; exact .inr rfl

theorem routeWide_ne_operation (s : State) (width : WideWidth) (a : Port) (bytes : List Byte) :
    routeWide s width a ≠ .operation bytes := by
  unfold routeWide
  split <;> nofun

/-- The record of a bus access or of another host call decodes to an operation other than machine_init. -/
theorem decode_route_ne_machineInit {s : State} {r : Request} {bytes tail : List Byte} {i : Instr}
    (hinit : r ≠ .machineInit) (hroute : route s r = .operation bytes) (hdecode : decode bytes = .ok (i, tail)) :
    i ≠ .machineInit := by
  cases r with
  | write a v =>
    obtain rfl | rfl := routeWrite_operation hroute
    · cases (decode_addressWrite s.reg v).symm.trans hdecode
      nofun
    · cases (decode_dataWrite s.reg v).symm.trans hdecode
      exact decodeDataWrite_ne_machineInit s.reg v
  | read a =>
    obtain rfl | rfl := routeRead_operation hroute
    · cases (decode_dataRead s.reg).symm.trans hdecode
      exact decodeDataRead_ne_machineInit s.reg
    · cases (decode_responderRead s.reg a).symm.trans hdecode
      nofun
  | wide dir width a => exact absurd hroute (routeWide_ne_operation s width a bytes)
  | addCard rom hooks =>
    cases hroute
    cases (decode_encode_addCard rom hooks).symm.trans hdecode
    nofun
  | setCsn card csn =>
    cases hroute
    cases (decode_encode_setCsn card csn).symm.trans hdecode
    nofun
  | machineInit => exact absurd rfl hinit
  | machineTeardown =>
    cases hroute
    cases hdecode
    nofun

/-- What was served ran behind the guard, an access that is no operation included (log 23). -/
theorem serve_next_live {s t : State} {r : Request} (hinit : r ≠ .machineInit) (h : serve r s = .next t) : s.Live := by
  unfold serve at h
  split at h
  next bytes hroute =>
    unfold runRecord at h
    split at h
    next i tail hdecode => exact exec_next_live (decode_route_ne_machineInit hinit hroute hdecode) h
    next => cases h
  next => exact operate_next_live h
  next => cases h

/-- Settles O46: every operation but machine_init runs behind the guard, and so does every access. -/
theorem nothingRunsAfterAFaultOrTeardown : Obligations.NothingRunsAfterAFaultOrTeardown := by
  refine ⟨?operation, ?access⟩
  case operation =>
    intro i s hinit
    obtain ⟨body, hbody⟩ := exec_guarded hinit s
    rw [hbody]
    exact ⟨fun k halive hfault => operate_faulted halive hfault body, fun hdead => operate_dead hdead body⟩
  case access =>
    intro s r rest hstopped hinit hpending t hnext
    have hserved : serve r (s.withPending rest) = .next t := (step_pending hpending).symm.trans hnext
    exact hstopped (serve_next_live (s := s.withPending rest) hinit hserved)

/-! ### Results that complete without a fatal error -/

/-- The result is a next state, and its fault is that of `s`. -/
def GoesOn (s : State) (r : Result) : Prop := ∃ t, r = .next t ∧ t.fault = s.fault

@[simp] theorem goesOn_next {s t : State} : GoesOn s (.next t) ↔ t.fault = s.fault := by
  simp [GoesOn]

theorem vendorRead_goesOn (s : State) (i : Nat) (c : Card) (ldn reg : Byte) :
    GoesOn s (vendorRead s.clearOutputs i c ldn reg) := by
  rw [vendorRead_eq, goesOn_next]
  split <;> simp

@[simp] theorem State.armAll_fault (s : State) : s.armAll.fault = s.fault := rfl

@[simp] theorem State.keyMatch_fault (s : State) : s.keyMatch.fault = s.fault := by
  unfold State.keyMatch
  split <;> simp

@[simp] theorem State.resetCommand_fault (s : State) : s.resetCommand.fault = s.fault := rfl

@[simp] theorem State.waitForKeyCommand_fault (s : State) : s.waitForKeyCommand.fault = s.fault := rfl

@[simp] theorem State.resetCsnCommand_fault (s : State) : s.resetCsnCommand.fault = s.fault := rfl

/-- A command that keeps the fault keeps it whether or not its bit is set. -/
theorem State.onCommand_fault {command : State → State} (h : ∀ s : State, (command s).fault = s.fault) (s : State)
    (bit : Bool) : (s.onCommand bit command).fault = s.fault := by
  cases bit
  · rfl
  · exact h s

section Live

variable {s : State}

theorem operate_goesOn (hlive : s.Live) {body : State → Result} (h : GoesOn s (body s.clearOutputs)) :
    GoesOn s (operate s body) := by
  rwa [operate_of_live hlive]

/-- A DATA read goes on where its body does: an unmapped one completes without an answer (log 6). -/
theorem dataRead_goesOn (hlive : s.Live) {body : State → Result} (h : GoesOn s (body s.clearOutputs)) :
    GoesOn s (dataRead s body) := by
  refine operate_goesOn hlive ?_
  split
  case isTrue => simp
  case isFalse => exact h

theorem ignoredWrite_goesOn (hlive : s.Live) : GoesOn s (ignoredWrite s) :=
  operate_goesOn hlive (by simp)

theorem constantRead_goesOn (hlive : s.Live) (b : Byte) : GoesOn s (constantRead s b) :=
  dataRead_goesOn hlive (by simp)

theorem readDeviceReg_goesOn (hlive : s.Live) (r : Byte) : GoesOn s (readDeviceReg s r) :=
  dataRead_goesOn hlive (by split <;> simp)

theorem writeDeviceReg_goesOn (hlive : s.Live) (r : Byte) (f : Byte → Byte) (fires : Bool) :
    GoesOn s (writeDeviceReg s r f fires) :=
  operate_goesOn hlive (by split <;> simp)

theorem execAw_goesOn (hlive : s.Live) (v : Byte) : GoesOn s (execAw v s) := by
  refine operate_goesOn hlive ?_
  split
  case isTrue => simp
  case isFalse =>
    split
    case isTrue => rw [goesOn_next]; split <;> simp
    case isFalse => simp

theorem execDwConfigControl_goesOn (hlive : s.Live) (v : Byte) : GoesOn s (execDwConfigControl v s) :=
  operate_goesOn hlive <| goesOn_next.mpr <| by
    rw [State.onCommand_fault State.resetCsnCommand_fault, State.onCommand_fault State.waitForKeyCommand_fault,
      State.onCommand_fault State.resetCommand_fault, State.clearOutputs_fault]

theorem execDrResourceData_goesOn (hlive : s.Live) : GoesOn s (execDrResourceData s) := by
  refine dataRead_goesOn hlive ?_
  split
  next => simp
  next i c _ => split <;> simp

theorem execDrVendorCard_goesOn (hlive : s.Live) (reg : Byte) : GoesOn s (execDrVendorCard reg s) := by
  refine dataRead_goesOn hlive ?_
  split
  next => simp
  next i c _ => exact vendorRead_goesOn s i c _ reg

theorem execDrVendorLd_goesOn (hlive : s.Live) (reg : Byte) : GoesOn s (execDrVendorLd reg s) := by
  refine dataRead_goesOn hlive ?_
  split
  next => simp
  next ref c d _ => exact vendorRead_goesOn s ref.card c _ reg

/-! ### The two fatal errors -/

/-- From `s` the operation is one of the two fatal errors of R285: its kind, and the value its event carries. -/
inductive FatalIn (s : State) : Instr → FatalKind → Byte → Prop where
  /-- No device of the first CONFIG card has the number. -/
  | unknownLdn {v : Byte} {j : Nat} {c : Card} (hfirst : s.FirstIn .config j c)
      (hmissing : ∀ d ∈ c.lds, d.number ≠ v) : FatalIn s (.dwLdn v) .unknownLdn v
  /-- The ROM has a fifth memory item of the family. -/
  | tooManyMemSlots {rom : List Byte} {hooks : Hooks} {fam : MemFamily}
      (hparse : parseRom s.cfg (storeResourceChecksum rom) = .error fam) :
      FatalIn s (.addCard rom hooks) .tooManyMemSlots fam.info

/-- The ROM given to add_card has its header (R38, D16; log 13). -/
def HasHeader : Instr → Prop
  | .addCard rom _ => 9 ≤ rom.length
  | _ => True

theorem hasHeader_of_wellFormed {i : Instr} (h : i.wellFormed = true) : HasHeader i := by
  cases i with
  | addCard rom hooks =>
    have hlength : minRomLen ≤ rom.length := of_decide_eq_true h
    exact hlength
  | _ => trivial

theorem hasHeader_of_next {i : Instr} {t : State} (hlive : s.Live) (h : exec i s = .next t) : HasHeader i := by
  cases i with
  | addCard rom hooks =>
    exact Nat.not_lt.mp fun hshort => nomatch (execAddCard_short hlive hshort hooks).symm.trans h
  | _ => trivial

theorem exec_of_fatalIn {i : Instr} {k : FatalKind} {info : Byte} (hlive : s.Live) (hheader : HasHeader i)
    (h : FatalIn s i k info) : exec i s = raiseFatal s.clearOutputs k info := by
  cases h with
  | @unknownLdn _ j c hfirst hmissing =>
    obtain ⟨_, _, hfatal⟩ := ldnWriteSelectsOrIsFatal s info hlive
    exact hfatal j c hfirst hmissing
  | @tooManyMemSlots rom hooks fam hparse => exact execAddCard_fatal hlive hheader hparse hooks

theorem execDwLdn_goesOn {v : Byte} (hlive : s.Live) (hok : ∀ k info, ¬ FatalIn s (.dwLdn v) k info) :
    GoesOn s (execDwLdn v s) := by
  refine operate_goesOn hlive ?_
  split
  next => simp
  next j c hconfig =>
    split
    next => simp
    next hnone =>
      have hmissing : ∀ d ∈ c.lds, d.number ≠ v := fun d hd =>
        beq_eq_false_iff_ne.mp (List.findIdx?_eq_none_iff.mp hnone d hd)
      exact absurd (.unknownLdn (State.firstCardIn_some hconfig) hmissing) (hok .unknownLdn v)

theorem execAddCard_goesOn {rom : List Byte} {hooks : Hooks} (hlive : s.Live) (hlength : 9 ≤ rom.length)
    (hok : ∀ k info, ¬ FatalIn s (.addCard rom hooks) k info) : GoesOn s (execAddCard rom hooks s) := by
  cases hparse : parseRom s.cfg (storeResourceChecksum rom) with
  | error fam => exact absurd (.tooManyMemSlots hparse) (hok .tooManyMemSlots fam.info)
  | ok lds =>
    rw [execAddCard_parsed hlive hlength hparse]
    simp

/-- An operation that is not fatal completes: a failed guard drops the operation or answers a sentinel (R281). -/
theorem exec_goesOn {i : Instr} (hlive : s.Live) (hheader : HasHeader i) (hok : ∀ k info, ¬ FatalIn s i k info) :
    GoesOn s (exec i s) := by
  cases i with dsimp only [exec]
  | aw v => exact execAw_goesOn hlive v
  | dwConfigControl v => exact execDwConfigControl_goesOn hlive v
  | dwSetRdPort | dwWake => exact operate_goesOn hlive (by simp)
  | dwCsn | dwVendorCard | dwVendorLd | rc | setCsn => exact operate_goesOn hlive (by split <;> simp)
  | dwLdn v => exact execDwLdn_goesOn hlive hok
  | dwSerialIsolation | dwResourceData | dwStatus | dwUnrecognized => exact ignoredWrite_goesOn hlive
  | dwActivate | dwIoRangeCheck | dwGeneric => exact writeDeviceReg_goesOn hlive _ _ _
  | drSetRdPort | drConfigControl | drWake | drUnrecognized => exact constantRead_goesOn hlive _
  | drActivate | drIoRangeCheck | drGeneric => exact readDeviceReg_goesOn hlive _
  | drStatus => exact dataRead_goesOn hlive (by simp)
  | drSerialIsolation | drCsn | drLdn => exact dataRead_goesOn hlive (by split <;> simp)
  | drResourceData => exact execDrResourceData_goesOn hlive
  | drVendorCard reg => exact execDrVendorCard_goesOn hlive reg
  | drVendorLd reg => exact execDrVendorLd_goesOn hlive reg
  | addCard rom hooks => exact execAddCard_goesOn hlive hheader hok
  | machineInit => exact goesOn_next.mpr hlive.2.symm
  | machineTeardown => exact operate_goesOn hlive (goesOn_next.mpr hlive.2.symm)

/-- A live controller's operation is fatal, or it completes without a fatal error. -/
theorem exec_fatal_or_goesOn {i : Instr} (hlive : s.Live) (hheader : HasHeader i) :
    (∃ k info, FatalIn s i k info ∧ exec i s = raiseFatal s.clearOutputs k info) ∨ GoesOn s (exec i s) := by
  by_cases hfatal : ∃ k info, FatalIn s i k info
  case pos =>
    obtain ⟨k, info, h⟩ := hfatal
    exact .inl ⟨k, info, h, exec_of_fatalIn hlive hheader h⟩
  case neg => exact .inr (exec_goesOn hlive hheader fun k info h => hfatal ⟨k, info, h⟩)

/-- A completed operation leaves the machine faulted exactly where it is one of the two fatal errors (R285). -/
theorem fault_iff_fatalIn {i : Instr} {t : State} {k : FatalKind} (hlive : s.Live) (h : exec i s = .next t) :
    t.fault = some k ↔ ∃ info, FatalIn s i k info ∧ t.events = [.fatal k info] := by
  have hheader : HasHeader i := hasHeader_of_next hlive h
  refine ⟨fun hfault => ?faulted, fun ⟨info, hfatal, _⟩ => ?fatal⟩
  case faulted =>
    obtain ⟨k', info, hfatal, hraised⟩ | ⟨t', hnext, hkept⟩ := exec_fatal_or_goesOn hlive hheader
    · cases hraised.symm.trans h
      cases hfault
      exact ⟨info, hfatal, rfl⟩
    · cases hnext.symm.trans h
      cases hfault.symm.trans (hkept.trans hlive.2)
  case fatal =>
    cases (exec_of_fatalIn hlive hheader hfatal).symm.trans h
    rfl

end Live

/-- Settles O47: taking a fatal error is a next state, and every other operation goes on. -/
theorem liveOperationsComplete : Obligations.LiveOperationsComplete := by
  intro i s hlive hwellFormed
  obtain ⟨k, info, _, hraised⟩ | ⟨t, hnext, _⟩ := exec_fatal_or_goesOn hlive (hasHeader_of_wellFormed hwellFormed)
  · exact ⟨_, hraised⟩
  · exact ⟨t, hnext⟩

/-- Settles O48: the list is the two cases of `FatalIn`. -/
theorem fatalErrorsAreTheTwoListed : Obligations.FatalErrorsAreTheTwoListed := by
  intro i s t k hlive hnext
  rw [fault_iff_fatalIn hlive hnext]
  refine ⟨?listed, ?fatal⟩
  case listed =>
    rintro ⟨info, hfatal, hevents⟩
    cases hfatal with
    | @unknownLdn _ j c hfirst hmissing => exact .inl ⟨rfl, info, j, c, rfl, hfirst, hmissing, hevents⟩
    | @tooManyMemSlots rom hooks fam hparse =>
      rw [MemFamily.info_eq] at hevents
      exact .inr ⟨rfl, rom, hooks, fam, rfl, hparse, hevents⟩
  case fatal =>
    rintro (⟨rfl, v, j, c, rfl, hfirst, hmissing, hevents⟩ | ⟨rfl, rom, hooks, fam, rfl, hparse, hevents⟩)
    · exact ⟨v, .unknownLdn hfirst hmissing, hevents⟩
    · rw [← MemFamily.info_eq] at hevents
      exact ⟨fam.info, .tooManyMemSlots hparse, hevents⟩

end Sys2Proof.Machine

/-! # Proofs: machine_init, machine_teardown and the reset state (R300, R301) -/

namespace Sys2Proof.Machine

/-! ### The reset values meet the invariants -/

/-- The reset values of `reg` and `key_pos` (D10) meet the lock invariant on any chain. -/
theorem State.lockInvariant_of_resetValues {s : State} (hreg : s.reg = 0x00) (hkeyPos : s.keyPos = 0) :
    s.LockInvariant :=
  ⟨fun _ => .inl hreg, fun _ => hkeyPos, fun _ => hreg⟩

theorem State.registerFilesCanonical_of_noCards {s : State} (hcards : s.cards = []) : s.RegisterFilesCanonical := by
  simp [State.RegisterFilesCanonical, hcards]

theorem State.cardsInvariant_of_noCards {s : State} (hparams : SaneParams s.cfg) (hcards : s.cards = []) :
    s.CardsInvariant where
  params := hparams
  cards := by simp [hcards]

theorem State.referencesValid_of_none {s : State} (hisolated : s.isolated = none) (hcurLd : s.curLd = none) :
    s.ReferencesValid := by
  simp [State.ReferencesValid, hisolated, hcurLd]

/-- The DMA offsets 0x74 and 0x75 of the default setting are generic and carry no flag (R6). -/
theorem saneParams_defaultParams : SaneParams defaultParams := by decide

/-! ### The statements -/

/-- Settles O45: machine_init runs without the guard of the other operations, machine_teardown behind it. -/
theorem initAndTeardownOfTheController : Obligations.InitAndTeardownOfTheController := fun _ =>
  ⟨rfl, fun hlive => operate_of_live hlive fun t => .next t.destroyed⟩

/-- Settles O58: the values are the definition's, and the invariants hold since no card is attached. -/
theorem resetHasItsValuesAndMeetsTheInvariants : Obligations.ResetHasItsValuesAndMeetsTheInvariants :=
  ⟨⟨rfl, rfl, rfl, rfl, rfl, rfl, rfl⟩, rfl, rfl, rfl,
    State.registerFilesCanonical_of_noCards rfl, State.lockInvariant_of_resetValues rfl rfl,
    State.cardsInvariant_of_noCards saneParams_defaultParams rfl, .inl rfl, State.referencesValid_of_none rfl rfl⟩

end Sys2Proof.Machine

/-! # Proofs: the lock invariant at every step (R312) -/

namespace Sys2Proof.Machine

/-! ### The index of an operation is the latched one -/

/-- If the operation's record is of class DW, its index is `reg` (R92). -/
def IndexedBy (reg : Byte) (i : Instr) : Prop := ∀ idx operands, encode i = record 1 idx operands → idx = reg

theorem record_inj {cls cls' reg reg' : Byte} {operands operands' : List Byte} :
    record cls reg operands = record cls' reg' operands' ↔ cls = cls' ∧ reg = reg' ∧ operands = operands' := by
  simp only [record, List.cons.injEq]
  exact and_left_comm

theorem indexedBy_of_record {i : Instr} {cls reg idx : Byte} {operands : List Byte}
    (hrecord : encode i = record cls idx operands) (hindex : cls = 1 → idx = reg) : IndexedBy reg i := by
  intro idx' operands' h
  obtain ⟨hcls, rfl, -⟩ := record_inj.mp (hrecord.symm.trans h)
  exact hindex hcls

theorem decodeDataWrite_indexedBy (reg v : Byte) : IndexedBy reg (decodeDataWrite reg v) :=
  have ⟨_, hrecord⟩ := RegClass.dataWrite_record (RegClass.covers_regClass reg) v
  indexedBy_of_record hrecord fun _ => rfl

theorem decodeDataRead_indexedBy (reg : Byte) : IndexedBy reg (decodeDataRead reg) :=
  have ⟨_, hrecord⟩ := RegClass.dataRead_record (RegClass.covers_regClass reg)
  indexedBy_of_record hrecord nofun

/-- The operation an access is routed to has the latched index, where it has one. -/
theorem decode_route_indexedBy {s : State} {r : Request} {bytes tail : List Byte} {i : Instr}
    (hroute : route s r = .operation bytes) (hdecode : decode bytes = .ok (i, tail)) : IndexedBy s.reg i := by
  cases r with
  | write a v =>
    obtain rfl | rfl := routeWrite_operation hroute
    · cases (decode_addressWrite s.reg v).symm.trans hdecode
      exact indexedBy_of_record rfl nofun
    · cases (decode_dataWrite s.reg v).symm.trans hdecode
      exact decodeDataWrite_indexedBy s.reg v
  | read a =>
    obtain rfl | rfl := routeRead_operation hroute
    · cases (decode_dataRead s.reg).symm.trans hdecode
      exact decodeDataRead_indexedBy s.reg
    · cases (decode_responderRead s.reg a).symm.trans hdecode
      exact indexedBy_of_record rfl nofun
  | wide dir width a => exact absurd hroute (routeWide_ne_operation s width a bytes)
  | addCard rom hooks =>
    cases hroute
    cases (decode_encode_addCard rom hooks).symm.trans hdecode
    exact indexedBy_of_record rfl nofun
  | setCsn card csn =>
    cases hroute
    cases (decode_encode_setCsn card csn).symm.trans hdecode
    exact indexedBy_of_record rfl nofun
  | machineInit | machineTeardown =>
    cases hroute
    cases hdecode
    exact indexedBy_of_record rfl nofun

/-- What was served is an access the block does not claim, or an operation at the latched index. -/
theorem serve_next {s t : State} {r : Request} (h : serve r s = .next t) :
    unclaimedAccess s = .next t ∨ ∃ i, IndexedBy s.reg i ∧ exec i s = .next t := by
  unfold serve at h
  split at h
  next bytes hroute =>
    unfold runRecord at h
    split at h
    next i tail hdecode => exact .inr ⟨i, decode_route_indexedBy hroute hdecode, h⟩
    next => cases h
  next => exact .inl h
  next => cases h

/-! ### The lock after a change of the chain -/

theorem State.locked_eq_head? (s : State) : s.locked = decide ((s.cards.map Card.state).head? = some .waitForKey) := by
  cases hcards : s.cards with
  | nil => simp [State.locked_nil hcards]
  | cons c cs => simp [State.locked_cons hcards]

theorem map_state_set {cs : List Card} {i : Nat} {c c' : Card} (hget : cs[i]? = some c) (hstate : c'.state = c.state) :
    (cs.set i c').map Card.state = cs.map Card.state := by
  obtain ⟨hi, rfl⟩ := List.getElem?_eq_some_iff.mp hget
  have himap : i < (cs.map Card.state).length := by rwa [List.length_map]
  rw [List.map_set, hstate, ← List.getElem_map Card.state (h := himap), List.set_getElem_self]

theorem map_state_map {f : Card → Card} (h : ∀ c, (f c).state = c.state) (cs : List Card) :
    (cs.map f).map Card.state = cs.map Card.state := by
  simp [h]

/-! ### Results that leave the lock -/

/-- If the result is a next state, `reg`, `key_pos` and the state of every card are those of `s`. -/
def LeavesLock (s : State) (r : Result) : Prop :=
  ∀ t, r = .next t → t.reg = s.reg ∧ t.keyPos = s.keyPos ∧ t.cards.map Card.state = s.cards.map Card.state

@[simp] theorem leavesLock_next {s t : State} : LeavesLock s (.next t) ↔
    t.reg = s.reg ∧ t.keyPos = s.keyPos ∧ t.cards.map Card.state = s.cards.map Card.state := by
  simp [LeavesLock]

theorem LeavesLock.lockInvariant {s t : State} {r : Result} (hleaves : LeavesLock s r) (hinv : s.LockInvariant)
    (h : r = .next t) : t.LockInvariant := by
  obtain ⟨hreg, hkeyPos, hstates⟩ := hleaves t h
  have hlocked : t.locked = s.locked := by rw [State.locked_eq_head?, State.locked_eq_head?, hstates]
  have hempty : t.cards = [] ↔ s.cards = [] := by
    rw [← List.map_eq_nil_iff (f := Card.state), hstates, List.map_eq_nil_iff]
  rwa [State.LockInvariant, hlocked, hempty, hreg, hkeyPos]

theorem operate_leavesLock {s : State} {body : State → Result} (h : LeavesLock s (body s.clearOutputs)) :
    LeavesLock s (operate s body) := fun t ht =>
  have ⟨_, _, hbody⟩ := operate_next ht
  h t hbody

/-- A DATA read leaves the lock where its body does: an unmapped one changes nothing but the outputs. -/
theorem dataRead_leavesLock {s : State} {body : State → Result} (h : LeavesLock s (body s.clearOutputs)) :
    LeavesLock s (dataRead s body) := fun t ht => by
  obtain ⟨_, _, ⟨_, rfl⟩ | ⟨_, hbody⟩⟩ := dataRead_next ht
  · exact ⟨rfl, rfl, rfl⟩
  · exact h t hbody

theorem ignoredWrite_leavesLock (s : State) : LeavesLock s (ignoredWrite s) := operate_leavesLock (by simp)

theorem constantRead_leavesLock (s : State) (b : Byte) : LeavesLock s (constantRead s b) :=
  dataRead_leavesLock (by simp)

theorem readDeviceReg_leavesLock (s : State) (r : Byte) : LeavesLock s (readDeviceReg s r) :=
  dataRead_leavesLock (by split <;> simp)

theorem writeDeviceReg_leavesLock (s : State) (r : Byte) (f : Byte → Byte) (fires : Bool) :
    LeavesLock s (writeDeviceReg s r f fires) := fun t ht => by
  obtain ⟨_, _, ⟨_, rfl⟩ | ⟨ref, c, d, hcurrent, rfl⟩⟩ := writeDeviceReg_next ht
  · exact ⟨rfl, rfl, rfl⟩
  · obtain ⟨_, hget, _⟩ := State.currentDevice_some.mp hcurrent
    exact ⟨rfl, rfl, map_state_set hget rfl⟩

theorem vendorRead_leavesLock (s : State) (i : Nat) (c : Card) (ldn reg : Byte) :
    LeavesLock s (vendorRead s.clearOutputs i c ldn reg) := by
  rw [vendorRead_eq, leavesLock_next]
  split <;> simp

theorem execDwLdn_leavesLock (v : Byte) (s : State) : LeavesLock s (execDwLdn v s) := by
  refine operate_leavesLock ?_
  split
  next => simp
  next i c _ => split <;> simp

theorem Card.pulse_state (p : Params) (c : Card) : (c.pulse p).1.state = c.state := by
  cases hpair : c.serialPair with
  | true => rw [Card.pulse_second hpair]
  | false =>
    obtain hpos | hpos := Nat.lt_or_ge c.serialPos.val 64
    · rw [Card.pulse_identity hpair hpos]
    · rw [Card.pulse_checksum hpair hpos]

/-- A pulse advances the card's engine and leaves its state (R180). -/
theorem execDrSerialIsolation_leavesLock (s : State) : LeavesLock s (execDrSerialIsolation s) := by
  refine dataRead_leavesLock ?_
  split
  next => simp
  next i c hfirst =>
    obtain ⟨hget, _, _⟩ := State.firstCardIn_some hfirst
    exact leavesLock_next.mpr ⟨rfl, rfl, map_state_set hget (c.pulse_state _)⟩

theorem execDrResourceData_leavesLock (s : State) : LeavesLock s (execDrResourceData s) := by
  refine dataRead_leavesLock ?_
  split
  next => simp
  next i c hconfig =>
    obtain ⟨hget, _, _⟩ := State.firstCardIn_some hconfig
    split
    next => exact leavesLock_next.mpr ⟨rfl, rfl, map_state_set hget rfl⟩
    next => simp

theorem execDrVendorCard_leavesLock (reg : Byte) (s : State) : LeavesLock s (execDrVendorCard reg s) := by
  refine dataRead_leavesLock ?_
  split
  next => simp
  next i c _ => exact vendorRead_leavesLock s i c _ reg

theorem execDrVendorLd_leavesLock (reg : Byte) (s : State) : LeavesLock s (execDrVendorLd reg s) := by
  refine dataRead_leavesLock ?_
  split
  next => simp
  next ref c d _ => exact vendorRead_leavesLock s ref.card c _ reg

theorem execSetCsn_leavesLock (card : BitVec 32) (csn : Byte) (s : State) : LeavesLock s (execSetCsn card csn s) := by
  refine operate_leavesLock ?_
  split
  next => simp
  next c hget => exact leavesLock_next.mpr ⟨rfl, rfl, map_state_set hget rfl⟩

/-- The operations that move the lock: the key, the card state machine, an attach, and the controller's own calls. -/
def MovesLock : Instr → Prop
  | .aw _ | .dwConfigControl _ | .dwWake _ | .dwCsn _ | .addCard _ _ | .machineInit | .machineTeardown => True
  | _ => False

theorem exec_leavesLock {i : Instr} (hmoves : ¬ MovesLock i) (s : State) : LeavesLock s (exec i s) := by
  cases i with dsimp only [exec]
  | aw | dwConfigControl | dwWake | dwCsn | addCard | machineInit | machineTeardown => exact absurd trivial hmoves
  | dwSetRdPort => exact operate_leavesLock (by simp)
  | dwVendorCard | dwVendorLd | rc => exact operate_leavesLock (by split <;> simp)
  | dwLdn v => exact execDwLdn_leavesLock v s
  | dwSerialIsolation | dwResourceData | dwStatus | dwUnrecognized => exact ignoredWrite_leavesLock s
  | dwActivate | dwIoRangeCheck | dwGeneric => exact writeDeviceReg_leavesLock s _ _ _
  | drSetRdPort | drConfigControl | drWake | drUnrecognized => exact constantRead_leavesLock s _
  | drActivate | drIoRangeCheck | drGeneric => exact readDeviceReg_leavesLock s _
  | drStatus => exact dataRead_leavesLock (by simp)
  | drCsn | drLdn => exact dataRead_leavesLock (by split <;> simp)
  | drSerialIsolation => exact execDrSerialIsolation_leavesLock s
  | drResourceData => exact execDrResourceData_leavesLock s
  | drVendorCard reg => exact execDrVendorCard_leavesLock reg s
  | drVendorLd reg => exact execDrVendorLd_leavesLock reg s
  | setCsn card csn => exact execSetCsn_leavesLock card csn s

/-! ### The operations that move the lock -/

section Movers

variable {s t : State} {v : Byte}

theorem State.lockInvariant_of_locked (hlocked : s.locked = true) (hreg : s.reg = 0x00 ∨ s.reg = 0x02) :
    s.LockInvariant := by
  rw [State.LockInvariant, hlocked]
  exact ⟨fun _ => hreg, nofun, fun hempty => absurd hempty (State.cards_ne_nil_of_locked hlocked)⟩

theorem State.lockInvariant_of_unlocked (hlocked : s.locked = false) (hkeyPos : s.keyPos = 0)
    (hempty : s.cards = [] → s.reg = 0x00) : s.LockInvariant := by
  rw [State.LockInvariant, hlocked]
  exact ⟨nofun, fun _ => hkeyPos, hempty⟩

/-- Any other index in the latch rules the lock out (I1). -/
theorem State.LockInvariant.unlocked (hinv : s.LockInvariant) (hreset : s.reg ≠ 0x00) (hcontrol : s.reg ≠ 0x02) :
    s.locked = false :=
  have ⟨hlatched, _, _⟩ := hinv
  Bool.eq_false_iff.mpr fun hlocked => (hlatched hlocked).elim hreset hcontrol

theorem State.first_state_ne_waitForKey {c : Card} (hlocked : s.locked = false) (hfirst : s.cards.head? = some c) :
    c.state ≠ .waitForKey := by
  rw [State.locked_eq_head?, List.head?_map, hfirst] at hlocked
  exact fun hc => of_decide_eq_false hlocked (congrArg some hc)

/-- A chain is unlocked after a change of every card that leaves the first one not waiting. -/
theorem State.unlocked_map {f : Card → Card} (hf : ∀ c, s.cards.head? = some c → (f c).state ≠ .waitForKey) :
    (s.withCards (s.cards.map f)).locked = false := by
  cases hcards : s.cards with
  | nil => exact State.locked_nil rfl
  | cons c cs => exact State.unlocked_of_first_not_waiting rfl (hf c (by rw [hcards]; rfl))

/-- A chain stays unlocked where a card that does not wait takes any place. -/
theorem State.unlocked_setCard {c : Card} (hc : c.state ≠ .waitForKey) (hlocked : s.locked = false) (i : Nat) :
    (s.setCard i c).locked = false := by
  cases hcards : s.cards with
  | nil => exact State.locked_nil (by rw [State.setCard_cards, hcards, List.set_nil])
  | cons e es =>
    cases i with
    | zero => exact State.unlocked_of_first_not_waiting (by rw [State.setCard_cards, hcards, List.set_cons_zero]) hc
    | succ i =>
      have hfirst : (s.setCard (i + 1) c).cards = e :: es.set i c := by
        rw [State.setCard_cards, hcards, List.set_cons_succ]
      exact (State.locked_cons hfirst).trans ((State.locked_cons hcards).symm.trans hlocked)

theorem Card.arm_state_ne_waitForKey (c : Card) : c.arm.state ≠ .waitForKey := by
  unfold Card.arm
  split
  case isTrue => nofun
  case isFalse hstate => exact hstate

theorem State.unlocked_armAll (s : State) : s.armAll.locked = false :=
  State.unlocked_map fun c _ => c.arm_state_ne_waitForKey

/-- Wake moves no card into WAIT_FOR_KEY (R32, R147). -/
theorem Card.wake_state_ne_waitForKey {c : Card} (p : Params) (v : Byte) (hstate : c.state ≠ .waitForKey) :
    (c.wake p v).state ≠ .waitForKey := by
  unfold Card.wake
  split
  case isTrue =>
    change wakeState v c.state ≠ .waitForKey
    unfold wakeState
    split
    case isTrue => split <;> nofun
    case isFalse => exact hstate
  case isFalse => nofun

/-- A matching key byte keeps the lock and its index, or arms the chain with the position back at 0. -/
theorem State.keyMatch_lockInvariant (hinv : s.LockInvariant) (hlocked : s.locked = true) :
    s.keyMatch.LockInvariant := by
  have ⟨hlatched, _, _⟩ := hinv
  obtain hlt | hlast : s.keyPos.toNat < 31 ∨ s.keyPos.toNat = 31 := by omega
  · rw [State.keyMatch_of_lt hlt]
    exact State.lockInvariant_of_locked hlocked (hlatched hlocked)
  · rw [State.keyMatch_of_last hlast]
    have hcards : (s.withKeyPos 0).armAll.cards ≠ [] := 
      List.map_eq_nil_iff.not.mpr (State.cards_ne_nil_of_locked hlocked)
    exact State.lockInvariant_of_unlocked (State.unlocked_armAll _) rfl fun hempty => absurd hempty hcards

theorem execAw_lockInvariant (hinv : s.LockInvariant) (h : execAw v s = .next t) : t.LockInvariant := by
  have ⟨hlatched, hstart, _⟩ := hinv
  have hlive : s.Live := operate_next_live h
  have haw : exec (.aw v) s = .next t := h
  by_cases hcards : s.cards = []
  case pos =>
    cases (exec_aw_emptyChain hlive hcards).symm.trans haw
    exact hinv
  case neg =>
    cases hlocked : s.locked with
    | false =>
      cases (exec_aw_unlocked hlive hcards hlocked).symm.trans haw
      exact State.lockInvariant_of_unlocked hlocked (hstart hlocked) fun hempty => absurd hempty hcards
    | true =>
      cases (exec_aw_locked hlive hlocked).symm.trans haw
      split
      case isTrue => exact State.keyMatch_lockInvariant hinv hlocked
      case isFalse => exact State.lockInvariant_of_locked hlocked (hlatched hlocked)

/-- The lock invariant with the latch at Config Control, as at the start of each of its commands. -/
def State.ControlLatched (s : State) : Prop := s.reg = 0x02 ∧ s.LockInvariant

theorem LeavesLock.controlLatched (hleaves : LeavesLock s (.next t)) (h : s.ControlLatched) : t.ControlLatched := by
  obtain ⟨hlatched, hinv⟩ := h
  obtain ⟨hreg, _, _⟩ := leavesLock_next.mp hleaves
  exact ⟨hreg.trans hlatched, hleaves.lockInvariant hinv rfl⟩

theorem State.resetCommand_controlLatched (s : State) : s.ControlLatched → s.resetCommand.ControlLatched :=
  LeavesLock.controlLatched <|
    leavesLock_next.mpr ⟨rfl, rfl, map_state_map (f := Card.resetRegs s.cfg) (fun _ => rfl) s.cards⟩

theorem State.resetCsnCommand_controlLatched (s : State) : s.ControlLatched → s.resetCsnCommand.ControlLatched :=
  LeavesLock.controlLatched <|
    leavesLock_next.mpr ⟨rfl, rfl, map_state_map (f := fun c => { c with csn := 0 }) (fun _ => rfl) s.cards⟩

/-- Back in WAIT_FOR_KEY the lock is closed with the latch at Config Control, as I1 allows: on an empty chain the latch
would have its reset value. -/
theorem State.waitForKeyCommand_controlLatched (s : State) (h : s.ControlLatched) :
    s.waitForKeyCommand.ControlLatched := by
  obtain ⟨hreg, _, _, hattached⟩ := h
  refine ⟨hreg, State.lockInvariant_of_locked ?_ (.inr hreg)⟩
  cases hcards : s.cards with
  | nil => cases hreg.symm.trans (hattached hcards)
  | cons c cs =>
    exact State.locked_of_first_waiting (by rw [State.waitForKeyCommand, State.withCards_cards, hcards, List.map_cons])
      rfl

theorem State.onCommand_controlLatched {command : State → State}
    (hcommand : ∀ s : State, s.ControlLatched → (command s).ControlLatched) (bit : Bool) (h : s.ControlLatched) :
    (s.onCommand bit command).ControlLatched := by
  cases bit with
  | false => exact h
  | true => exact hcommand s h

theorem execDwConfigControl_lockInvariant (hinv : s.LockInvariant) (hreg : s.reg = 0x02)
    (h : execDwConfigControl v s = .next t) : t.LockInvariant := by
  obtain ⟨_, _, hbody⟩ := operate_next h
  cases hbody
  have hstart : s.clearOutputs.ControlLatched := ⟨hreg, hinv⟩
  have hreset := State.onCommand_controlLatched State.resetCommand_controlLatched (commandReset v) hstart
  have hwaiting :=
    State.onCommand_controlLatched State.waitForKeyCommand_controlLatched (commandWaitForKey v) hreset
  have ⟨_, hdone⟩ :=
    State.onCommand_controlLatched State.resetCsnCommand_controlLatched (commandResetCsn v) hwaiting
  exact hdone

theorem execDwWake_lockInvariant (hinv : s.LockInvariant) (hreg : s.reg = 0x03) (h : execDwWake v s = .next t) :
    t.LockInvariant := by
  have ⟨_, hstart, hattached⟩ := hinv
  have hlocked : s.locked = false := hinv.unlocked (by rw [hreg]; decide) (by rw [hreg]; decide)
  obtain ⟨_, _, hbody⟩ := operate_next h
  cases hbody
  have hwoken : (s.clearOutputs.withCards (s.clearOutputs.cards.map (Card.wake s.cfg v))).locked = false :=
    State.unlocked_map fun _ hfirst =>
      Card.wake_state_ne_waitForKey s.cfg v (State.first_state_ne_waitForKey hlocked hfirst)
  exact State.lockInvariant_of_unlocked hwoken (hstart hlocked) fun hempty =>
    hattached (List.map_eq_nil_iff.mp hempty)

/-- The marked card enters CONFIG, and no key can be under way: the latch is at the CSN register. -/
theorem execDwCsn_lockInvariant (hinv : s.LockInvariant) (hreg : s.reg = 0x06) (h : execDwCsn v s = .next t) :
    t.LockInvariant := by
  have ⟨_, hstart, hattached⟩ := hinv
  have hlocked : s.locked = false := hinv.unlocked (by rw [hreg]; decide) (by rw [hreg]; decide)
  obtain ⟨_, _, hbody⟩ := operate_next h
  split at hbody
  next => cases hbody; exact hinv
  next i c _ =>
    cases hbody
    have hconfigured : (s.clearOutputs.setCard i { c with csn := v, state := .config }).locked = false :=
      State.unlocked_setCard (by nofun) hlocked i
    exact State.lockInvariant_of_unlocked hconfigured (hstart hlocked) fun hempty =>
      hattached ((List.set_eq_nil_iff _ _).mp hempty)

/-- The card an attach puts on an empty chain closes the lock with the latch at its reset value; behind another card it
moves no lock. -/
theorem State.lockInvariant_attached {c : Card} (hinv : s.LockInvariant) (hc : c.state = .waitForKey) :
    (s.withCards (s.cards ++ [c])).LockInvariant := by
  have ⟨hlatched, hstart, hattached⟩ := hinv
  cases hcards : s.cards with
  | nil =>
    exact State.lockInvariant_of_locked (State.locked_of_first_waiting rfl hc) (.inl (hattached hcards))
  | cons e es =>
    have hsame : (s.withCards (e :: es ++ [c])).locked = s.locked :=
      (State.locked_cons rfl).trans (State.locked_cons hcards).symm
    rw [State.LockInvariant, hsame]
    exact ⟨hlatched, hstart, nofun⟩

theorem execAddCard_lockInvariant {rom : List Byte} {hooks : Hooks} (hinv : s.LockInvariant)
    (h : execAddCard rom hooks s = .next t) : t.LockInvariant := by
  obtain ⟨_, _, hbody⟩ := operate_next h
  split at hbody
  case isTrue => cases hbody
  case isFalse =>
    split at hbody
    next => cases hbody; exact hinv
    next => cases hbody; exact State.lockInvariant_attached (s := s.clearOutputs) hinv rfl

end Movers

/-! ### Every operation, every step -/

/-- An operation run at its own index keeps the lock invariant. -/
theorem exec_lockInvariant {i : Instr} {s t : State} (hinv : s.LockInvariant) (hindexed : IndexedBy s.reg i)
    (h : exec i s = .next t) : t.LockInvariant := by
  cases i with
  | aw v => exact execAw_lockInvariant hinv h
  | dwConfigControl v => exact execDwConfigControl_lockInvariant hinv (hindexed 0x02 [v] rfl).symm h
  | dwWake v => exact execDwWake_lockInvariant hinv (hindexed 0x03 [v] rfl).symm h
  | dwCsn v => exact execDwCsn_lockInvariant hinv (hindexed 0x06 [v] rfl).symm h
  | addCard rom hooks => exact execAddCard_lockInvariant hinv h
  | machineInit =>
    cases h
    exact State.lockInvariant_of_resetValues rfl rfl
  | machineTeardown =>
    have hteardown : execMachineTeardown s = .next t := h
    obtain ⟨_, _, hbody⟩ := operate_next hteardown
    cases hbody
    exact State.lockInvariant_of_resetValues rfl rfl
  | _ => exact (exec_leavesLock id s).lockInvariant hinv h

/-- Settles O54: a step idles, serves an unclaimed access or runs an operation at its own index, and each keeps the
invariant. -/
theorem stepKeepsTheLockInvariant : Obligations.StepKeepsTheLockInvariant := by
  intro s t hinv h
  cases hpending : s.pending with
  | nil =>
    cases (step_idle hpending).symm.trans h
    exact hinv
  | cons r rest =>
    have hserved : serve r (s.withPending rest) = .next t := (step_pending hpending).symm.trans h
    obtain hunclaimed | ⟨i, hindexed, hexec⟩ := serve_next hserved
    · exact (ignoredWrite_leavesLock _).lockInvariant (s := s.withPending rest) hinv hunclaimed
    · exact exec_lockInvariant (s := s.withPending rest) hinv hindexed hexec

end Sys2Proof.Machine

/-! # Proofs: what each operation changes, said once (R22 to R42) -/

namespace Sys2Proof.Machine

/-! ### The change an operation makes -/

/-- The state without what an operation answers: its outputs (log 4) and the count of the vendor questions (log 5). -/
def State.withoutOutputs (s : State) : State := { s.clearOutputs with asks := 0 }

/-- What Config Control makes of a card (R144 to R146). -/
def Card.control (p : Params) (v : Byte) (c : Card) : Card :=
  { c with
    lds := if v.getLsbD 0 then c.lds.map (resetLdRegs p) else c.lds
    state := if v.getLsbD 1 then .waitForKey else c.state
    csn := if v.getLsbD 2 then 0 else c.csn }

/-- What Config Control makes of the controller and its chain (R143). -/
def State.control (s : State) (v : Byte) : State :=
  { s with
    cards := s.cards.map (Card.control s.cfg v)
    readPort := if v.getLsbD 0 then 0 else s.readPort
    curLd := if v.getLsbD 0 then none else s.curLd
    isolated := if v.getLsbD 0 then none else s.isolated }

/-- The operation stores in register `r` of the selected device what `f` makes of its byte (R203, R205, R210). -/
inductive StoresIn : Instr → Byte → (Byte → Byte) → Prop
  | activate (v : Byte) : StoresIn (.dwActivate v) activateReg (fun _ => activateBits v)
  | rangeCheck (v : Byte) : StoresIn (.dwIoRangeCheck v) rangeCheckReg (fun _ => rangeCheckBits v)
  | generic (r v : Byte) : StoresIn (.dwGeneric r v) r (fun old => genericStored r old v)

/-- The operations by which a card can change its protocol state (R32) or leave the chain (R300). -/
def MovesCards : Instr → Prop
  | .aw _ | .dwConfigControl _ | .dwWake _ | .dwCsn _ | .machineInit | .machineTeardown => True
  | _ => False

theorem StoresIn.not_movesCards {i : Instr} {r : Byte} {f : Byte → Byte} (h : StoresIn i r f) : ¬ MovesCards i := by
  cases h <;> exact id

/-- What a completed operation makes of the state, its outputs aside: one constructor for each change there is. The
ADDRESS write and the CSN write also say when they change no card; `keyed` is a key byte that does not complete the
key. -/
inductive Effect (s : State) : Instr → State → Prop
  | nothing {i : Instr} (hmoves : ¬ MovesCards i) : Effect s i s
  | fatal {i : Instr} (hmoves : ¬ MovesCards i) (kind : FatalKind) : Effect s i { s with fault := some kind }
  | ignored (v : Byte) (hempty : s.cards = []) : Effect s (.aw v) s
  | latched (v : Byte) (hunlocked : s.locked = false) : Effect s (.aw v) (s.withReg v)
  | keyed (v : Byte) (hpart : ¬ (s.keyPos.toNat = 31 ∧ v = s.cfg.key[31])) (pos : BitVec 5) :
      Effect s (.aw v) (s.withKeyPos pos)
  | armed (v : Byte) (hlocked : s.locked = true) (hlast : s.keyPos.toNat = 31) (hmatch : v = s.cfg.key[31]) :
      Effect s (.aw v) (s.withKeyPos 0).armAll
  | mapped (v : Byte) : Effect s (.dwSetRdPort v) (s.withReadPort (mappedReadPort v))
  | controlled (v : Byte) : Effect s (.dwConfigControl v) (s.control v)
  | woken (v : Byte) : Effect s (.dwWake v) (s.withCards (s.cards.map (Card.wake s.cfg v)))
  | unmarked (v : Byte) (hunmarked : s.isolatedCard = none) : Effect s (.dwCsn v) s
  | configured (v : Byte) {i : Nat} {c : Card} (hmarked : s.isolated = some i) (hget : s.cards[i]? = some c) :
      Effect s (.dwCsn v) ((s.setCard i { c with csn := v, state := .config }).withIsolated none)
  | selected (v : Byte) {i k : Nat} {c : Card} (hget : s.cards[i]? = some c) (hdevice : k < c.lds.length) :
      Effect s (.dwLdn v) (s.withCurLd (some ⟨i, k⟩))
  | noneIsolated : Effect s .drSerialIsolation (s.withIsolated none)
  | pulsed {i : Nat} {c : Card} (hget : s.cards[i]? = some c) :
      Effect s .drSerialIsolation ((s.withIsolated (some i)).setCard i (c.pulse s.cfg).1)
  | advanced {i : Nat} {c : Card} (hget : s.cards[i]? = some c) (hinside : c.romPos < c.rom.length) :
      Effect s .drResourceData (s.setCard i { c with romPos := c.romPos + 1 })
  | stored {i : Instr} {r : Byte} {f : Byte → Byte} (hstores : StoresIn i r f) {ref : DeviceRef} {c : Card}
      {d : LogicalDevice} (hget : s.cards[ref.card]? = some c) (hdevice : c.lds[ref.device]? = some d) :
      Effect s i (s.setDevice ref c (d.setReg r (f (d.reg r))))
  | attached (rom : List Byte) (hooks : Hooks) {lds : List LogicalDevice} (hheader : minRomLen ≤ rom.length)
      (hparse : parseRom s.cfg (storeResourceChecksum rom) = .ok lds) :
      Effect s (.addCard rom hooks) (s.withCards (s.cards ++ [Card.attached (storeResourceChecksum rom) lds hooks]))
  | renumbered (card : BitVec 32) (csn : Byte) {c : Card} (hget : s.cards[card.toNat]? = some c) :
      Effect s (.setCsn card csn) (s.setCard card.toNat { c with csn := csn })
  | initialised : Effect s .machineInit s.initialised
  | destroyed : Effect s .machineTeardown s.destroyed

/-! ### Every operation makes one of the changes -/

/-- If the result is a next state, the change from `s` to it is one the operation makes. -/
def Performs (i : Instr) (s : State) (r : Result) : Prop :=
  ∀ t, r = .next t → Effect s.withoutOutputs i t.withoutOutputs

section Performs

variable {i : Instr} {s : State}

@[simp] theorem performs_next {t : State} :
    Performs i s (.next t) ↔ Effect s.withoutOutputs i t.withoutOutputs := by
  simp [Performs]

theorem operate_performs {body : State → Result} (h : Performs i s (body s.clearOutputs)) :
    Performs i s (operate s body) := fun t ht =>
  have ⟨_, _, hbody⟩ := operate_next ht
  h t hbody

/-- An unmapped DATA read changes nothing. -/
theorem dataRead_performs (hmoves : ¬ MovesCards i) {body : State → Result}
    (h : Performs i s (body s.clearOutputs)) : Performs i s (dataRead s body) := fun t ht => by
  obtain ⟨_, _, ⟨_, rfl⟩ | ⟨_, hbody⟩⟩ := dataRead_next ht
  · exact .nothing hmoves
  · exact h t hbody

theorem performs_dropped (hmoves : ¬ MovesCards i) : Performs i s (dropped s.clearOutputs) :=
  performs_next.mpr (.nothing hmoves)

theorem performs_answerByte (hmoves : ¬ MovesCards i) (b : Byte) : Performs i s (answerByte s.clearOutputs b) :=
  performs_next.mpr (.nothing hmoves)

theorem performs_raiseFatal (hmoves : ¬ MovesCards i) (kind : FatalKind) (info : Byte) :
    Performs i s (raiseFatal s.clearOutputs kind info) :=
  performs_next.mpr (.fatal hmoves kind)

/-- A question to a vendor-read hook is an output. -/
theorem performs_vendorRead (hmoves : ¬ MovesCards i) (j : Nat) (c : Card) (ldn reg : Byte) :
    Performs i s (vendorRead s.clearOutputs j c ldn reg) := by
  rw [vendorRead_eq, performs_next]
  split <;> exact .nothing hmoves

theorem performs_vendorWrite (hmoves : ¬ MovesCards i) (j : Nat) (c : Card) (ldn reg v : Byte) :
    Performs i s (vendorWrite s.clearOutputs j c ldn reg v) :=
  performs_next.mpr (.nothing hmoves)

theorem ignoredWrite_performs (hmoves : ¬ MovesCards i) (s : State) : Performs i s (ignoredWrite s) :=
  operate_performs (performs_dropped hmoves)

theorem constantRead_performs (hmoves : ¬ MovesCards i) (s : State) (b : Byte) : Performs i s (constantRead s b) :=
  dataRead_performs hmoves (performs_answerByte hmoves b)

theorem readDeviceReg_performs (hmoves : ¬ MovesCards i) (s : State) (r : Byte) : Performs i s (readDeviceReg s r) :=
  dataRead_performs hmoves (by split <;> exact performs_answerByte hmoves _)

theorem writeDeviceReg_performs {r : Byte} {f : Byte → Byte} (hstores : StoresIn i r f) (s : State) (fires : Bool) :
    Performs i s (writeDeviceReg s r f fires) := fun t ht => by
  obtain ⟨_, _, ⟨_, rfl⟩ | ⟨ref, c, d, hcurrent, rfl⟩⟩ := writeDeviceReg_next ht
  · exact .nothing hstores.not_movesCards
  · obtain ⟨_, hget, hdevice⟩ := State.currentDevice_some.mp hcurrent
    exact .stored (s := s.withoutOutputs) hstores hget hdevice

end Performs

theorem State.expectedKeyByte_of_last {s : State} (h : s.keyPos.toNat = 31) : s.expectedKeyByte = s.cfg.key[31] := by
  simp only [State.expectedKeyByte, h]

theorem execAw_performs (v : Byte) (s : State) : Performs (.aw v) s (execAw v s) := fun t ht => by
  have hlive : s.Live := operate_next_live ht
  have haw : exec (.aw v) s = .next t := ht
  by_cases hcards : s.cards = []
  case pos =>
    cases (exec_aw_emptyChain hlive hcards).symm.trans haw
    exact .ignored v hcards
  case neg =>
    cases hlocked : s.locked with
    | false =>
      cases (exec_aw_unlocked hlive hcards hlocked).symm.trans haw
      exact .latched v hlocked
    | true =>
      by_cases hmatch : v = s.expectedKeyByte
      case neg =>
        cases (exec_aw_mismatch hlive hlocked hmatch).symm.trans haw
        refine .keyed v (fun ⟨hlast, hv⟩ => hmatch ?_) 0
        exact hv.trans (State.expectedKeyByte_of_last hlast).symm
      case pos =>
        obtain hlt | hlast : s.keyPos.toNat < 31 ∨ s.keyPos.toNat = 31 := by omega
        · cases (exec_aw_match_of_lt hlive hlocked hmatch hlt).symm.trans haw
          exact .keyed (s := s.withoutOutputs) v (fun ⟨hlast, _⟩ => absurd hlast (Nat.ne_of_lt hlt)) (s.keyPos + 1)
        · cases (exec_aw_match_of_last hlive hlocked hmatch hlast).symm.trans haw
          exact .armed v hlocked hlast (hmatch.trans (State.expectedKeyByte_of_last hlast))

theorem execDwSetRdPort_performs (v : Byte) (s : State) : Performs (.dwSetRdPort v) s (execDwSetRdPort v s) :=
  operate_performs (performs_next.mpr (.mapped (s := s.withoutOutputs) v))

theorem execDwWake_performs (v : Byte) (s : State) : Performs (.dwWake v) s (execDwWake v s) :=
  operate_performs (performs_next.mpr (.woken (s := s.withoutOutputs) v))

theorem execDwConfigControl_performs (v : Byte) (s : State) :
    Performs (.dwConfigControl v) s (execDwConfigControl v s) := fun t ht => by
  have hcontrol : exec (.dwConfigControl v) s = .next t := ht
  cases (configControlRunsItsCommands s v (operate_next_live ht)).symm.trans hcontrol
  exact .controlled v

theorem execDwCsn_performs (v : Byte) (s : State) : Performs (.dwCsn v) s (execDwCsn v s) := by
  refine operate_performs ?_
  split
  next hunmarked => exact performs_next.mpr (.unmarked v hunmarked)
  next j c hmarked =>
    obtain ⟨hisolated, hget⟩ := State.isolatedCard_some.mp hmarked
    exact performs_next.mpr (.configured (s := s.withoutOutputs) v hisolated hget)

theorem Card.lt_length_of_deviceNumbered {c : Card} {v : Byte} {k : Nat} (h : c.deviceNumbered v = some k) :
    k < c.lds.length :=
  have ⟨hk, _⟩ := List.findIdx?_eq_some_iff_getElem.mp h
  hk

theorem execDwLdn_performs (v : Byte) (s : State) : Performs (.dwLdn v) s (execDwLdn v s) := by
  refine operate_performs ?_
  split
  next => exact performs_dropped id
  next j c hconfig =>
    obtain ⟨hget, _, _⟩ := State.firstCardIn_some hconfig
    split
    next k hnumbered =>
      have hdevice := Card.lt_length_of_deviceNumbered hnumbered
      exact performs_next.mpr (.selected (s := s.withoutOutputs) v hget hdevice)
    next => exact performs_raiseFatal id _ _

theorem execDrSerialIsolation_performs (s : State) : Performs .drSerialIsolation s (execDrSerialIsolation s) := by
  refine dataRead_performs id ?_
  split
  next => exact performs_next.mpr .noneIsolated
  next j c hfirst =>
    obtain ⟨hget, _, _⟩ := State.firstCardIn_some hfirst
    exact performs_next.mpr (.pulsed (s := s.withoutOutputs) hget)

theorem execDrResourceData_performs (s : State) : Performs .drResourceData s (execDrResourceData s) := by
  refine dataRead_performs id ?_
  split
  next => exact performs_answerByte id _
  next j c hconfig =>
    obtain ⟨hget, _, _⟩ := State.firstCardIn_some hconfig
    split
    next b hbyte =>
      obtain ⟨hinside, _⟩ := List.getElem?_eq_some_iff.mp hbyte
      exact performs_next.mpr (.advanced (s := s.withoutOutputs) hget hinside)
    next => exact performs_answerByte id _

theorem execDrStatus_performs (s : State) : Performs .drStatus s (execDrStatus s) :=
  dataRead_performs id (performs_answerByte id _)

theorem execDrCsn_performs (s : State) : Performs .drCsn s (execDrCsn s) :=
  dataRead_performs id (by split <;> exact performs_answerByte id _)

theorem execDrLdn_performs (s : State) : Performs .drLdn s (execDrLdn s) :=
  dataRead_performs id (by split <;> exact performs_answerByte id _)

theorem execDrVendorCard_performs (reg : Byte) (s : State) :
    Performs (.drVendorCard reg) s (execDrVendorCard reg s) := by
  refine dataRead_performs id ?_
  split
  next => exact performs_answerByte id _
  next j c _ => exact performs_vendorRead id j c _ reg

theorem execDrVendorLd_performs (reg : Byte) (s : State) : Performs (.drVendorLd reg) s (execDrVendorLd reg s) := by
  refine dataRead_performs id ?_
  split
  next => exact performs_answerByte id _
  next ref c d _ => exact performs_vendorRead id ref.card c _ reg

theorem execDwVendorCard_performs (reg v : Byte) (s : State) :
    Performs (.dwVendorCard reg v) s (execDwVendorCard reg v s) := by
  refine operate_performs ?_
  split
  next => exact performs_dropped id
  next j c _ => exact performs_vendorWrite id j c _ reg v

theorem execDwVendorLd_performs (reg v : Byte) (s : State) :
    Performs (.dwVendorLd reg v) s (execDwVendorLd reg v s) := by
  refine operate_performs ?_
  split
  next => exact performs_dropped id
  next ref c d _ => exact performs_vendorWrite id ref.card c _ reg v

theorem execRc_performs (a : Port) (s : State) : Performs (.rc a) s (execRc a s) := by
  refine operate_performs ?_
  split
  next => exact performs_dropped id
  next => exact performs_answerByte id _

theorem execAddCard_performs (rom : List Byte) (hooks : Hooks) (s : State) :
    Performs (.addCard rom hooks) s (execAddCard rom hooks s) := by
  refine operate_performs ?_
  split
  case isTrue => exact nofun
  case isFalse hheader =>
    split
    next => exact performs_raiseFatal id _ _
    next lds hparse =>
      exact performs_next.mpr (.attached (s := s.withoutOutputs) rom hooks (Nat.not_lt.mp hheader) hparse)

theorem execSetCsn_performs (card : BitVec 32) (csn : Byte) (s : State) :
    Performs (.setCsn card csn) s (execSetCsn card csn s) := by
  refine operate_performs ?_
  split
  next => exact performs_dropped id
  next c hget => exact performs_next.mpr (.renumbered (s := s.withoutOutputs) card csn hget)

theorem execMachineInit_performs (s : State) : Performs .machineInit s (execMachineInit s) :=
  performs_next.mpr (.initialised (s := s.withoutOutputs))

theorem execMachineTeardown_performs (s : State) : Performs .machineTeardown s (execMachineTeardown s) :=
  operate_performs (performs_next.mpr (.destroyed (s := s.withoutOutputs)))

/-- The change of every operation is one of `Effect`'s. -/
theorem exec_performs (i : Instr) (s : State) : Performs i s (exec i s) := by
  cases i with
  | aw v => exact execAw_performs v s
  | dwSetRdPort v => exact execDwSetRdPort_performs v s
  | dwConfigControl v => exact execDwConfigControl_performs v s
  | dwWake v => exact execDwWake_performs v s
  | dwCsn v => exact execDwCsn_performs v s
  | dwLdn v => exact execDwLdn_performs v s
  | dwSerialIsolation | dwResourceData | dwStatus | dwUnrecognized => exact ignoredWrite_performs id s
  | dwVendorCard reg v => exact execDwVendorCard_performs reg v s
  | dwVendorLd reg v => exact execDwVendorLd_performs reg v s
  | dwActivate v => exact writeDeviceReg_performs (.activate v) s true
  | dwIoRangeCheck v => exact writeDeviceReg_performs (.rangeCheck v) s false
  | dwGeneric reg v => exact writeDeviceReg_performs (.generic reg v) s true
  | drSetRdPort | drConfigControl | drWake | drUnrecognized => exact constantRead_performs id s _
  | drActivate | drIoRangeCheck | drGeneric => exact readDeviceReg_performs id s _
  | drStatus => exact execDrStatus_performs s
  | drCsn => exact execDrCsn_performs s
  | drLdn => exact execDrLdn_performs s
  | drSerialIsolation => exact execDrSerialIsolation_performs s
  | drResourceData => exact execDrResourceData_performs s
  | drVendorCard reg => exact execDrVendorCard_performs reg s
  | drVendorLd reg => exact execDrVendorLd_performs reg s
  | rc a => exact execRc_performs a s
  | addCard rom hooks => exact execAddCard_performs rom hooks s
  | setCsn card csn => exact execSetCsn_performs card csn s
  | machineInit => exact execMachineInit_performs s
  | machineTeardown => exact execMachineTeardown_performs s

end Sys2Proof.Machine

/-! # Proofs: who writes the controller's fields (R22 to R27, R52) -/

namespace Sys2Proof.Machine

section ControllerFields

variable {i : Instr} {s t : State} (heffect : Effect s i t) (hinit : i ≠ .machineInit)
  (hteardown : i ≠ .machineTeardown)

include heffect hinit hteardown

theorem Effect.reg_keyPos (haw : ∀ v, i ≠ .aw v) : t.reg = s.reg ∧ t.keyPos = s.keyPos := by
  cases heffect with
  | ignored v | latched v | keyed v | armed v => exact absurd rfl (haw v)
  | initialised => exact absurd rfl hinit
  | destroyed => exact absurd rfl hteardown
  | _ => exact ⟨rfl, rfl⟩

theorem Effect.readPort (hset : ∀ v, i ≠ .dwSetRdPort v) (hcontrol : ∀ v, i ≠ .dwConfigControl v) :
    t.readPort = s.readPort := by
  cases heffect with
  | mapped v => exact absurd rfl (hset v)
  | controlled v => exact absurd rfl (hcontrol v)
  | initialised => exact absurd rfl hinit
  | destroyed => exact absurd rfl hteardown
  | _ => rfl

theorem Effect.isolated (hserial : i ≠ .drSerialIsolation) (hcsn : ∀ v, i ≠ .dwCsn v)
    (hcontrol : ∀ v, i ≠ .dwConfigControl v) : t.isolated = s.isolated := by
  cases heffect with
  | noneIsolated | pulsed => exact absurd rfl hserial
  | configured v => exact absurd rfl (hcsn v)
  | controlled v => exact absurd rfl (hcontrol v)
  | initialised => exact absurd rfl hinit
  | destroyed => exact absurd rfl hteardown
  | _ => rfl

theorem Effect.curLd (hldn : ∀ v, i ≠ .dwLdn v) (hcontrol : ∀ v, i ≠ .dwConfigControl v) : t.curLd = s.curLd := by
  cases heffect with
  | selected v => exact absurd rfl (hldn v)
  | controlled v => exact absurd rfl (hcontrol v)
  | initialised => exact absurd rfl hinit
  | destroyed => exact absurd rfl hteardown
  | _ => rfl

theorem Effect.alive_pending : t.alive = s.alive ∧ t.pending = s.pending := by
  cases heffect with
  | initialised => exact absurd rfl hinit
  | destroyed => exact absurd rfl hteardown
  | _ => exact ⟨rfl, rfl⟩

end ControllerFields

/-- Settles O49: of the changes of `Effect`, those that touch a field are the named operations'. -/
theorem controllerFieldsHaveTheseWriters : Obligations.ControllerFieldsHaveTheseWriters := by
  intro i s t h hinit hteardown
  have heffect := exec_performs i s t h
  obtain ⟨halive, hpending⟩ := heffect.alive_pending hinit hteardown
  exact ⟨heffect.reg_keyPos hinit hteardown, heffect.readPort hinit hteardown, heffect.isolated hinit hteardown,
    heffect.curLd hinit hteardown, halive, exec_keepsCfg i s t h, hpending⟩

end Sys2Proof.Machine

/-! # Proofs: what an operation makes of each card, its state and its fields (R30 to R42) -/

namespace Sys2Proof.Machine

/-! ### The change of a card -/

/-- The 32nd match in a row arms the card, a waiting one (R123). -/
def State.ArmsCard (s : State) (v : Byte) (c : Card) : Prop :=
  s.locked = true ∧ s.keyPos.toNat = 31 ∧ v = s.cfg.key[31] ∧ c.state = .waitForKey

/-- What a completed operation from `s` makes of card `j`, which is `c`. -/
inductive CardChange (s : State) (j : Nat) (c : Card) : Instr → Card → Prop
  | kept {i : Instr} (hmoves : ¬ MovesCards i) : CardChange s j c i c
  | notArmed (v : Byte) (harms : ¬ s.ArmsCard v c) : CardChange s j c (.aw v) c
  | armed (v : Byte) (harms : s.ArmsCard v c) : CardChange s j c (.aw v) { c with state := .sleep }
  | controlled (v : Byte) : CardChange s j c (.dwConfigControl v) (c.control s.cfg v)
  | woken (v : Byte) : CardChange s j c (.dwWake v) (c.wake s.cfg v)
  | notMarked (v : Byte) (hother : s.isolated ≠ some j) : CardChange s j c (.dwCsn v) c
  | configured (v : Byte) (hmarked : s.isolated = some j) :
      CardChange s j c (.dwCsn v) { c with csn := v, state := .config }
  | pulsed : CardChange s j c .drSerialIsolation (c.pulse s.cfg).1
  | advanced (hinside : c.romPos < c.rom.length) : CardChange s j c .drResourceData { c with romPos := c.romPos + 1 }
  | stored {i : Instr} {r : Byte} {f : Byte → Byte} (hstores : StoresIn i r f) {k : Nat} {d : LogicalDevice}
      (hdevice : c.lds[k]? = some d) : CardChange s j c i (c.setDevice k (d.setReg r (f (d.reg r))))
  | renumbered (card : BitVec 32) (csn : Byte) : CardChange s j c (.setCsn card csn) { c with csn := csn }

/-- An arming key byte does to every card what `CardChange` says of it. -/
theorem CardChange.arm {s : State} {v : Byte} (hlocked : s.locked = true) (hlast : s.keyPos.toNat = 31)
    (hmatch : v = s.cfg.key[31]) (j : Nat) (c : Card) : CardChange s j c (.aw v) c.arm := by
  unfold Card.arm
  split
  case isTrue hwaiting => exact .armed v ⟨hlocked, hlast, hmatch, hwaiting⟩
  case isFalse hwaiting => exact .notArmed v fun ⟨_, _, _, hwaits⟩ => hwaiting hwaits

/-! ### The change of the chain -/

/-- `cs` is the chain of `s` with every card changed as the operation changes it. -/
def ChainChange (s : State) (i : Instr) (cs : List Card) : Prop :=
  cs.length = s.cards.length ∧ ∀ j c, s.cards[j]? = some c → ∃ c', cs[j]? = some c' ∧ CardChange s j c i c'

/-- `c` is a card as add_card attaches one under the parameters `p` (R240). -/
def AttachedCard (p : Params) (c : Card) : Prop :=
  ∃ rom hooks lds, minRomLen ≤ rom.length ∧ parseRom p (storeResourceChecksum rom) = .ok lds ∧
    c = Card.attached (storeResourceChecksum rom) lds hooks

section Chain

variable {i : Instr} {s t : State}

theorem chainChange_map {f : Card → Card} (h : ∀ j c, s.cards[j]? = some c → CardChange s j c i (f c)) :
    ChainChange s i (s.cards.map f) :=
  ⟨List.length_map f, fun j c hget => ⟨f c, by rw [List.getElem?_map, hget]; rfl, h j c hget⟩⟩

theorem chainChange_same (h : ∀ j c, s.cards[j]? = some c → CardChange s j c i c) : ChainChange s i s.cards :=
  ⟨rfl, fun j c hget => ⟨c, hget, h j c hget⟩⟩

theorem chainChange_kept (hmoves : ¬ MovesCards i) : ChainChange s i s.cards :=
  chainChange_same fun _ _ _ => .kept hmoves

/-- One card replaced as the operation changes it, the others as it leaves them. -/
theorem chainChange_set {k : Nat} {e e' : Card} (hget : s.cards[k]? = some e) (hself : CardChange s k e i e')
    (hother : ∀ j c, j ≠ k → CardChange s j c i c) : ChainChange s i (s.cards.set k e') := by
  refine ⟨List.length_set, fun j c hc => ?_⟩
  by_cases hj : j = k
  · subst hj
    cases hget.symm.trans hc
    obtain ⟨hlt, _⟩ := List.getElem?_eq_some_iff.mp hget
    exact ⟨e', List.getElem?_set_self hlt, hself⟩
  · exact ⟨c, (List.getElem?_set_ne (Ne.symm hj)).trans hc, hother j c hj⟩

/-- An operation that moves no card replaces one as it changes it. -/
theorem chainChange_set_kept {k : Nat} {e e' : Card} (hmoves : ¬ MovesCards i) (hget : s.cards[k]? = some e)
    (hself : CardChange s k e i e') : ChainChange s i (s.cards.set k e') :=
  chainChange_set hget hself fun _ _ _ => .kept hmoves

theorem State.isolated_ne_of_isolatedCard_none {j : Nat} {c : Card} (hunmarked : s.isolatedCard = none)
    (hget : s.cards[j]? = some c) : s.isolated ≠ some j := fun hisolated => by
  rw [State.isolatedCard_some.mpr ⟨hisolated, hget⟩] at hunmarked
  cases hunmarked

/-- An operation leaves no card, or the chain with every card changed and at most a new one attached behind. -/
theorem Effect.chain (h : Effect s i t) :
    ((i = .machineInit ∨ i = .machineTeardown) ∧ t.cards = []) ∨
      ∃ cs new, t.cards = cs ++ new ∧ ChainChange s i cs ∧ ∀ c ∈ new, AttachedCard s.cfg c := by
  suffices hchain : ((i = .machineInit ∨ i = .machineTeardown) ∧ t.cards = []) ∨ ChainChange s i t.cards ∨
      ∃ c, t.cards = s.cards ++ [c] ∧ ¬ MovesCards i ∧ AttachedCard s.cfg c by
    obtain hnone | hchange | ⟨c, hcards, hmoves, hattached⟩ := hchain
    · exact .inl hnone
    · exact .inr ⟨t.cards, [], (List.append_nil _).symm, hchange, fun _ hc => absurd hc List.not_mem_nil⟩
    · exact .inr ⟨s.cards, [c], hcards, chainChange_kept hmoves, fun _ hc => List.mem_singleton.mp hc ▸ hattached⟩
  cases h with
  | nothing hmoves | fatal hmoves => exact .inr (.inl (chainChange_kept hmoves))
  | ignored v hempty =>
    refine .inr (.inl (chainChange_same fun j c hget => ?_))
    rw [hempty] at hget
    cases hget
  | latched v hunlocked =>
    refine .inr (.inl (chainChange_same fun _ _ _ => .notArmed v fun ⟨hlocked, _⟩ => ?_))
    rw [hunlocked] at hlocked
    cases hlocked
  | keyed v hpart =>
    exact .inr (.inl (chainChange_same fun _ _ _ => .notArmed v fun ⟨_, hlast, hv, _⟩ => hpart ⟨hlast, hv⟩))
  | armed v hlocked hlast hmatch =>
    exact .inr (.inl (chainChange_map fun j c _ => CardChange.arm hlocked hlast hmatch j c))
  | controlled v => exact .inr (.inl (chainChange_map fun _ _ _ => .controlled v))
  | woken v => exact .inr (.inl (chainChange_map fun _ _ _ => .woken v))
  | unmarked v hunmarked =>
    exact .inr (.inl (chainChange_same fun _ _ hget =>
      .notMarked v (State.isolated_ne_of_isolatedCard_none hunmarked hget)))
  | configured v hmarked hget =>
    exact .inr (.inl (chainChange_set hget (.configured v hmarked) fun _ _ hj =>
      .notMarked v fun hmarked' => hj (Option.some.inj (hmarked'.symm.trans hmarked))))
  | mapped | selected | noneIsolated => exact .inr (.inl (chainChange_kept id))
  | pulsed hget => exact .inr (.inl (chainChange_set_kept id hget .pulsed))
  | advanced hget hinside => exact .inr (.inl (chainChange_set_kept id hget (.advanced hinside)))
  | stored hstores hget hdevice =>
    exact .inr (.inl (chainChange_set_kept hstores.not_movesCards hget (.stored hstores hdevice)))
  | renumbered card csn hget => exact .inr (.inl (chainChange_set_kept id hget (.renumbered card csn)))
  | attached rom hooks hheader hparse => exact .inr (.inr ⟨_, rfl, id, rom, hooks, _, hheader, hparse, rfl⟩)
  | initialised => exact .inl ⟨.inl rfl, rfl⟩
  | destroyed => exact .inl ⟨.inr rfl, rfl⟩

/-- Every card of the chain is still at its place. -/
theorem Effect.card {j : Nat} {c : Card} (h : Effect s i t) (hinit : i ≠ .machineInit)
    (hteardown : i ≠ .machineTeardown) (hget : s.cards[j]? = some c) :
    ∃ c', t.cards[j]? = some c' ∧ CardChange s j c i c' := by
  obtain ⟨hi, _⟩ | ⟨cs, new, hcards, ⟨_, hchange⟩, _⟩ := h.chain
  · exact absurd hi (not_or.mpr ⟨hinit, hteardown⟩)
  · obtain ⟨c', hget', hc'⟩ := hchange j c hget
    obtain ⟨hlt, _⟩ := List.getElem?_eq_some_iff.mp hget'
    exact ⟨c', by rw [hcards, List.getElem?_append_left hlt, hget'], hc'⟩

/-- Every card there is was there before or is the attached one. -/
theorem Effect.card_origin {c' : Card} (h : Effect s i t) (hc' : c' ∈ t.cards) :
    (∃ j c, s.cards[j]? = some c ∧ CardChange s j c i c') ∨ AttachedCard s.cfg c' := by
  obtain ⟨_, hnone⟩ | ⟨cs, new, hcards, ⟨hlength, hchange⟩, hnew⟩ := h.chain
  · rw [hnone] at hc'
    cases hc'
  · rw [hcards] at hc'
    obtain hold | hattached := List.mem_append.mp hc'
    · obtain ⟨j, hj, rfl⟩ := List.mem_iff_getElem.mp hold
      obtain ⟨c'', hget', hchanged⟩ := hchange j _ (List.getElem?_eq_getElem (hlength ▸ hj))
      cases (List.getElem?_eq_getElem hj).symm.trans hget'
      exact .inl ⟨j, _, List.getElem?_eq_getElem (hlength ▸ hj), hchanged⟩
    · exact .inr (hnew c' hattached)

end Chain

/-! ### Config Control, Wake and a pulse, field by field -/

theorem Card.control_lds (p : Params) (v : Byte) (c : Card) :
    (c.control p v).lds = if v.getLsbD 0 then c.lds.map (resetLdRegs p) else c.lds := rfl

theorem Card.wake_eq (p : Params) (v : Byte) (c : Card) :
    c.wake p v =
      { c with
        serialPos := if c.csn = v then 0 else c.serialPos
        serialPair := if c.csn = v then false else c.serialPair
        romPos := if c.csn = v then 0 else c.romPos
        idChecksum := if c.csn = v then p.key[0] else c.idChecksum
        state := if c.csn = v then wakeState v c.state else .sleep } := by
  unfold Card.wake
  split <;> rfl

/-- A pulse moves the isolation engine and the resource pointer and stores at most byte 8 of the ROM. -/
theorem Card.pulse_eq (p : Params) (c : Card) :
    ∃ ck pos pair latch rom romPos,
      (c.pulse p).1 =
        { c with
          idChecksum := ck
          serialPos := pos
          serialPair := pair
          serialLatch := latch
          rom := rom
          romPos := romPos } ∧
      (rom = c.rom ∨ ∃ b, rom = c.rom.set 8 b) ∧
      (romPos = c.romPos ∨ p.romPosAfterIsolation = some romPos) := by
  cases hpair : c.serialPair with
  | true =>
    rw [Card.pulse_second hpair]
    refine ⟨_, _, _, _, _, _, rfl, .inl rfl, ?_⟩
    split
    · cases p.romPosAfterIsolation with
      | none => exact .inl rfl
      | some n => exact .inr rfl
    · exact .inl rfl
  | false =>
    obtain hpos | hpos := Nat.lt_or_ge c.serialPos.val 64
    · rw [Card.pulse_identity hpair hpos]
      exact ⟨_, _, _, _, _, _, rfl, .inl rfl, .inl rfl⟩
    · rw [Card.pulse_checksum hpair hpos]
      refine ⟨_, _, _, _, _, _, rfl, ?_, .inl rfl⟩
      split
      · exact .inr ⟨_, rfl⟩
      · exact .inl rfl

/-! ### The protocol state -/

/-- Settles O19: the changes of a card, each beside its row of the table. -/
theorem cardStatesFollowTheTransitionTable : Obligations.CardStatesFollowTheTransitionTable := by
  intro i s t j c h hinit hteardown hget
  obtain ⟨c', hget', hchange⟩ := (exec_performs i s t h).card hinit hteardown hget
  refine ⟨c', hget', ?_⟩
  cases hchange with
  | notArmed v harms => exact (if_neg harms).symm
  | armed v harms => exact (if_pos harms).symm
  | woken v => rw [Card.wake_eq]; exact (ite_not _ _ _).symm
  | notMarked v hother => exact (if_neg hother).symm
  | configured v hmarked => exact (if_pos hmarked).symm
  | pulsed => exact c.pulse_state s.cfg
  | controlled | advanced | renumbered => rfl
  | stored hstores => cases hstores <;> rfl
  | kept hmoves =>
    cases i with
    | aw | dwConfigControl | dwWake | dwCsn | machineInit | machineTeardown => exact absurd trivial hmoves
    | _ => rfl

/-! ### The other fields -/

/-- What no operation touches of a card's devices (R40, R42). -/
def deviceIdentity (d : LogicalDevice) : Byte × Byte := (d.number, d.ulMask)

theorem map_deviceIdentity_set {lds : List LogicalDevice} {k : Nat} {d d' : LogicalDevice} (hget : lds[k]? = some d)
    (hsame : deviceIdentity d' = deviceIdentity d) : (lds.set k d').map deviceIdentity = lds.map deviceIdentity := by
  obtain ⟨hk, rfl⟩ := List.getElem?_eq_some_iff.mp hget
  have hkmap : k < (lds.map deviceIdentity).length := by rwa [List.length_map]
  rw [List.map_set, hsame, ← List.getElem_map deviceIdentity (h := hkmap), List.set_getElem_self]

theorem map_deviceIdentity_reset (p : Params) (lds : List LogicalDevice) :
    (lds.map (resetLdRegs p)).map deviceIdentity = lds.map deviceIdentity := by
  simp [deviceIdentity]

section CardFields

variable {i : Instr} {s : State} {j : Nat} {c c' : Card} (hchange : CardChange s j c i c')

include hchange

theorem CardChange.csn (hcsn : ∀ v, i ≠ .dwCsn v) (hcontrol : ∀ v, i ≠ .dwConfigControl v)
    (hset : ∀ card v, i ≠ .setCsn card v) : c'.csn = c.csn := by
  cases hchange with
  | configured v => exact absurd rfl (hcsn v)
  | controlled v => exact absurd rfl (hcontrol v)
  | renumbered card v => exact absurd rfl (hset card v)
  | woken v => rw [Card.wake_eq]
  | pulsed => obtain ⟨_, _, _, _, _, _, heq, _, _⟩ := c.pulse_eq s.cfg; rw [heq]
  | _ => rfl

/-- The isolation engine belongs to Wake and to the isolation read (R34 to R36, D14). -/
theorem CardChange.isolationEngine (hwake : ∀ v, i ≠ .dwWake v) (hserial : i ≠ .drSerialIsolation) :
    c'.idChecksum = c.idChecksum ∧ c'.serialPos = c.serialPos ∧ c'.serialPair = c.serialPair := by
  cases hchange with
  | woken v => exact absurd rfl (hwake v)
  | pulsed => exact absurd rfl hserial
  | _ => exact ⟨rfl, rfl, rfl⟩

/-- Latch and ROM belong to the isolation read alone: Wake leaves the latch (R37, D15). -/
theorem CardChange.latch_rom (hserial : i ≠ .drSerialIsolation) : c'.serialLatch = c.serialLatch ∧ c'.rom = c.rom := by
  cases hchange with
  | pulsed => exact absurd rfl hserial
  | woken v => rw [Card.wake_eq]; exact ⟨rfl, rfl⟩
  | _ => exact ⟨rfl, rfl⟩

theorem CardChange.romPos (hwake : ∀ v, i ≠ .dwWake v) (hserial : i ≠ .drSerialIsolation)
    (hresource : i ≠ .drResourceData) : c'.romPos = c.romPos := by
  cases hchange with
  | woken v => exact absurd rfl (hwake v)
  | pulsed => exact absurd rfl hserial
  | advanced => exact absurd rfl hresource
  | _ => rfl

/-- The ROM stays or has its byte 8 stored, the checksum placeholder (R38, R185). -/
theorem CardChange.rom : c'.rom = c.rom ∨ ∃ b, c'.rom = c.rom.set 8 b := by
  cases hchange with
  | pulsed => obtain ⟨_, _, _, _, _, _, heq, hrom, _⟩ := c.pulse_eq s.cfg; rwa [heq]
  | woken v => rw [Card.wake_eq]; exact .inl rfl
  | _ => exact .inl rfl

theorem CardChange.rom_length : c'.rom.length = c.rom.length := by
  obtain hrom | ⟨b, hrom⟩ := hchange.rom
  · rw [hrom]
  · rw [hrom, List.length_set]

theorem CardChange.rom_getElem? {a : Nat} (ha : a ≠ 8) : c'.rom[a]? = c.rom[a]? := by
  obtain hrom | ⟨b, hrom⟩ := hchange.rom
  · rw [hrom]
  · rw [hrom, List.getElem?_set_ne (Ne.symm ha)]

theorem CardChange.hooks : c'.hooks = c.hooks := by
  cases hchange with
  | woken v => rw [Card.wake_eq]
  | pulsed => obtain ⟨_, _, _, _, _, _, heq, _, _⟩ := c.pulse_eq s.cfg; rw [heq]
  | _ => rfl

theorem CardChange.deviceIdentities : c'.lds.map deviceIdentity = c.lds.map deviceIdentity := by
  cases hchange with
  | controlled v =>
    rw [Card.control_lds]
    split
    · exact map_deviceIdentity_reset s.cfg c.lds
    · rfl
  | stored _ hdevice => exact map_deviceIdentity_set hdevice rfl
  | woken v => rw [Card.wake_eq]
  | pulsed => obtain ⟨_, _, _, _, _, _, heq, _, _⟩ := c.pulse_eq s.cfg; rw [heq]
  | _ => rfl

theorem CardChange.lds (hcontrol : ∀ v, i ≠ .dwConfigControl v) (hactivate : ∀ v, i ≠ .dwActivate v)
    (hrange : ∀ v, i ≠ .dwIoRangeCheck v) (hgeneric : ∀ r v, i ≠ .dwGeneric r v) : c'.lds = c.lds := by
  cases hchange with
  | controlled v => exact absurd rfl (hcontrol v)
  | stored hstores =>
    cases hstores with
    | activate v => exact absurd rfl (hactivate v)
    | rangeCheck v => exact absurd rfl (hrange v)
    | generic _ v => exact absurd rfl (hgeneric _ v)
  | woken v => rw [Card.wake_eq]
  | pulsed => obtain ⟨_, _, _, _, _, _, heq, _, _⟩ := c.pulse_eq s.cfg; rw [heq]
  | _ => rfl

end CardFields

/-- Settles O50: of the changes of a card, those that touch a field are the named operations'. -/
theorem cardFieldsHaveTheseWriters : Obligations.CardFieldsHaveTheseWriters := by
  intro i s t j c h hinit hteardown hget
  obtain ⟨c', hget', hchange⟩ := (exec_performs i s t h).card hinit hteardown hget
  exact ⟨c', hget', hchange.csn, hchange.isolationEngine, hchange.latch_rom, hchange.romPos, hchange.rom_length,
    fun _ => hchange.rom_getElem?, hchange.hooks, hchange.deviceIdentities, hchange.lds⟩

end Sys2Proof.Machine

/-! # Proofs: what every step keeps of the cards, their register files and the references (R25 to R27, R38 to R42) -/

namespace Sys2Proof.Machine

/-! ### A step makes the change of one operation -/

/-- Whatever the decoder reads is an operation of the spec, but for the length of a ROM (log 11, log 13). -/
theorem decode_wellFormed {bytes tail : List Byte} {i : Instr} (h : decode bytes = .ok (i, tail)) :
    i.wellFormed = true ∨ ∃ rom hooks, i = .addCard rom hooks := by
  unfold decode at h
  split at h
  next reg cls args =>
    split at h
    next => cases h; exact .inl rfl
    next v rest _ =>
      cases h
      obtain ⟨⟨hwf, _⟩, _⟩ := everyIndexDecodesToItsOwnRecord reg v
      exact .inl hwf
    next rest _ =>
      cases h
      obtain ⟨_, hwf, _⟩ := everyIndexDecodesToItsOwnRecord reg 0
      exact .inl hwf
    next => cases h; exact .inl rfl
    next hooks rom _ =>
      split at h
      case isTrue => cases h; exact .inr ⟨_, _, rfl⟩
      case isFalse => cases h
    next => cases h; exact .inl rfl
    next => cases h; exact .inl rfl
    next => cases h; exact .inl rfl
    next => split at h <;> cases h
  next => cases h

/-- If the operation is a generic write, its index is a generic register's (R95). -/
def GenericInBlock (i : Instr) : Prop := ∀ r v, i = .dwGeneric r v → isGenericIndex r = true

theorem genericInBlock_of_decode {bytes tail : List Byte} {i : Instr} (h : decode bytes = .ok (i, tail)) :
    GenericInBlock i := by
  rintro r v rfl
  obtain hwf | ⟨_, _, hi⟩ := decode_wellFormed h
  · exact hwf
  · cases hi

/-- What was served is an operation at an index of its block; an access the block does not claim acts as a write it
ignores (log 6). -/
theorem serve_effect {s t : State} {r : Request} (h : serve r s = .next t) :
    ∃ i, GenericInBlock i ∧ Effect s.withoutOutputs i t.withoutOutputs := by
  unfold serve at h
  split at h
  next bytes _ =>
    unfold runRecord at h
    split at h
    next i _ hdecode => exact ⟨i, genericInBlock_of_decode hdecode, exec_performs i s t h⟩
    next => cases h
  next => exact ⟨.dwStatus 0, nofun, exec_performs (.dwStatus 0) s t h⟩
  next => cases h

/-- What every operation keeps, every step keeps, for a predicate that reads neither the outputs nor the queue. -/
theorem step_keeps {P : State → Prop} (houtputs : ∀ s, P s.withoutOutputs → P s)
    (hqueue : ∀ s rest, P s → P (s.withPending rest).withoutOutputs)
    (heffect : ∀ {i s t}, GenericInBlock i → Effect s i t → P s → P t) {s t : State} (hs : P s)
    (h : step s = .next t) : P t := by
  cases hpending : s.pending with
  | nil =>
    cases (step_idle hpending).symm.trans h
    exact hs
  | cons r rest =>
    have hserved : serve r (s.withPending rest) = .next t := (step_pending hpending).symm.trans h
    obtain ⟨i, hblock, hi⟩ := serve_effect hserved
    exact houtputs t (heffect hblock hi (hqueue s rest hs))

/-! ### The devices of a card -/

/-- The devices are as they were, one of them written by a storing operation, or back at their defaults. -/
theorem CardChange.devices {P : LogicalDevice → Prop} {i : Instr} {s : State} {j : Nat} {c c' : Card}
    (h : CardChange s j c i c') (hreset : ∀ d, P (resetLdRegs s.cfg d))
    (hstore : ∀ {r f d}, StoresIn i r f → P d → P (d.setReg r (f (d.reg r)))) (hc : ∀ d ∈ c.lds, P d) :
    ∀ d ∈ c'.lds, P d := by
  cases h with
  | controlled v =>
    rw [Card.control_lds]
    split
    · intro d hd
      obtain ⟨e, _, rfl⟩ := List.mem_map.mp hd
      exact hreset e
    · exact hc
  | stored hstores hdevice =>
    intro d hd
    obtain hold | rfl := List.mem_or_eq_of_mem_set hd
    · exact hc d hold
    · exact hstore hstores (hc _ (List.mem_of_getElem? hdevice))
  | woken v => rwa [Card.wake_eq]
  | pulsed => obtain ⟨_, _, _, _, _, _, heq, _, _⟩ := c.pulse_eq s.cfg; rwa [heq]
  | _ => exact hc

/-- An attached card's devices are numbered in order and hold their defaults (R240, R252). -/
theorem AttachedCard.devices {p : Params} {c : Card} (h : AttachedCard p c) {k : Nat} {d : LogicalDevice}
    (hget : c.lds[k]? = some d) : d.number = BitVec.ofNat 8 k ∧ d = resetLdRegs p d := by
  obtain ⟨rom, hooks, lds, _, hparse, rfl⟩ := h
  have ⟨hdevices, _⟩ := parsedDevicesAreNumberedWithDefaults
  have ⟨_, hnumbered⟩ := hdevices p _ lds hparse
  exact hnumbered k d hget

/-- A property the defaults have, an attached card's devices have. -/
theorem AttachedCard.forall_device {P : LogicalDevice → Prop} {p : Params} {c : Card} (h : AttachedCard p c)
    (hreset : ∀ d, P (resetLdRegs p d)) : ∀ d ∈ c.lds, P d := fun d hd => by
  obtain ⟨k, hget⟩ := List.mem_iff_getElem?.mp hd
  obtain ⟨_, hdefaults⟩ := h.devices hget
  rw [hdefaults]
  exact hreset d

/-! ### The register files -/

theorem Effect.registerFilesCanonical {i : Instr} {s t : State} (h : Effect s i t) (hs : s.RegisterFilesCanonical) :
    t.RegisterFilesCanonical := by
  have hreset (d : LogicalDevice) :
      Memory.wf (resetLdRegs s.cfg d).regs ∧ Memory.within256 (resetLdRegs s.cfg d).regs :=
    ⟨resetLdRegs_wf s.cfg d, resetLdRegs_within256 s.cfg d⟩
  intro c' hc'
  obtain ⟨j, c, hget, hchange⟩ | hattached := h.card_origin hc'
  · refine hchange.devices hreset (fun {r f d} _ hd => ?_) (hs c (List.mem_of_getElem? hget))
    obtain ⟨hwf, hwithin⟩ := hd
    exact ⟨LogicalDevice.wf_setReg r _ hwf, LogicalDevice.within256_setReg r _ hwithin⟩
  · exact hattached.forall_device hreset

/-- Settles O53: the defaults are canonical, and a register write keeps the form. -/
theorem stepKeepsRegisterFilesCanonical : Obligations.StepKeepsRegisterFilesCanonical := fun _ _ =>
  step_keeps (fun _ h => h) (fun _ _ h => h) fun _ => Effect.registerFilesCanonical

/-! ### The invariant of a device -/

/-- The control byte of each memory slot beside its mask bit (R42). -/
def upperLimitSlots : List (Byte × Nat) :=
  [(0x42, 0), (0x4A, 1), (0x52, 2), (0x5A, 3), (0x7A, 4), (0x84, 5), (0x94, 6), (0xA4, 7)]

theorem isUpperLimitOffset_of_slot : ∀ slot ∈ upperLimitSlots, isUpperLimitOffset slot.1 = true := by decide

theorem slot_eq_of_offset_eq : ∀ a ∈ upperLimitSlots, ∀ b ∈ upperLimitSlots, a.1 = b.1 → a = b := by decide

/-- A default byte, the forced flags by their slots (R252). -/
theorem resetLdRegs_reg (p : Params) (d : LogicalDevice) (r : Byte) :
    (resetLdRegs p d).reg r =
      (if r = p.dmaReg0 ∨ r = p.dmaReg1 then p.dmaDisabled else 0x00) |||
        (if ∃ slot ∈ upperLimitSlots, slot.1 = r ∧ d.ulMask.getLsbD slot.2 = true then 0x01 else 0x00) :=
  have ⟨hbyte, _⟩ := registerDefaultsByteByByte p d r
  hbyte

/-- No port access stores at the index (R41). -/
def UnreachedIndex (r : Byte) : Prop := r.toNat < 0x30 ∨ isVendorLdIndex r = true

theorem not_unreachedIndex_of_generic {r : Byte} (h : isGenericIndex r = true) : ¬ UnreachedIndex r := by
  rw [UnreachedIndex, isVendorLdIndex_iff]
  rw [isGenericIndex_iff] at h
  omega

theorem not_mem_ulOffsets_of_unreached {r : Byte} (h : UnreachedIndex r) : r ∉ ulOffsets := fun hmem =>
  have hgeneric : ∀ q ∈ ulOffsets, isGenericIndex q = true := by decide
  not_unreachedIndex_of_generic (hgeneric r hmem) h

/-- A write within reach keeps the invariant where its byte has only the kept bits and the flag that was there. -/
theorem DeviceInvariant.setReg {d : LogicalDevice} {r b : Byte} (h : DeviceInvariant d) (hreach : ¬ UnreachedIndex r)
    (hactivate : r = 0x30 → b.toNat ≤ 1) (hrange : r = 0x31 → b.toNat ≤ 3)
    (hflag : isUpperLimitOffset r = true → b.getLsbD 0 = (d.reg r).getLsbD 0) : DeviceInvariant (d.setReg r b) := by
  have hreg (q : Byte) : (d.setReg r b).reg q = if q = r then b else d.reg q := by
    split
    case isTrue hq => rw [hq, LogicalDevice.reg_setReg_same r b h.canonical]
    case isFalse hq => exact LogicalDevice.reg_setReg_other b hq
  constructor
  case canonical => exact LogicalDevice.wf_setReg r b h.canonical
  case within => exact LogicalDevice.within256_setReg r b h.within
  case activate =>
    rw [hreg]
    split
    case isTrue hr => exact hactivate hr.symm
    case isFalse => exact h.activate
  case rangeCheck =>
    rw [hreg]
    split
    case isTrue hr => exact hrange hr.symm
    case isFalse => exact h.rangeCheck
  case flags =>
    intro slot hslot
    rw [hreg, LogicalDevice.setReg_ulMask, ← h.flags slot hslot]
    split
    case isTrue hr => rw [hr, hflag (hr ▸ isUpperLimitOffset_of_slot slot hslot)]
    case isFalse => rfl
  case unreached =>
    intro q hq
    rw [hreg, if_neg fun hqr : q = r => hreach (hqr ▸ hq)]
    exact h.unreached q hq

/-- A generic write leaves the read-only bit (R210). -/
theorem genericStored_getLsbD_zero {r : Byte} (h : isUpperLimitOffset r = true) (old v : Byte) :
    (genericStored r old v).getLsbD 0 = old.getLsbD 0 := by
  rw [genericStored, if_pos h]
  simp

theorem toNat_and_le (v mask : Byte) : (v &&& mask).toNat ≤ mask.toNat := by
  rw [BitVec.toNat_and]
  exact Nat.and_le_right

theorem StoresIn.deviceInvariant {i : Instr} {r : Byte} {f : Byte → Byte} (hstores : StoresIn i r f)
    (hblock : GenericInBlock i) {d : LogicalDevice} (h : DeviceInvariant d) :
    DeviceInvariant (d.setReg r (f (d.reg r))) := by
  cases hstores with
  | activate v =>
    refine h.setReg ?_ (fun _ => toNat_and_le v 0x01) nofun nofun
    rw [UnreachedIndex]
    decide
  | rangeCheck v =>
    refine h.setReg ?_ nofun (fun _ => toNat_and_le v 0x03) nofun
    rw [UnreachedIndex]
    decide
  | generic _ v =>
    have hgeneric := hblock r v rfl
    refine h.setReg (not_unreachedIndex_of_generic hgeneric) ?_ ?_ fun hflag => genericStored_getLsbD_zero hflag _ v
    · rintro rfl
      exact absurd hgeneric (by decide)
    · rintro rfl
      exact absurd hgeneric (by decide)

/-- The defaults meet the invariant where the DMA offsets are plain generic registers (R252). -/
theorem resetLdRegs_deviceInvariant {p : Params} (hsane : SaneParams p) (d : LogicalDevice) :
    DeviceInvariant (resetLdRegs p d) := by
  obtain ⟨⟨hgeneric0, hplain0⟩, hgeneric1, hplain1⟩ := hsane
  have hzero {q : Byte} (hq : isGenericIndex q = false) (hflag : q ∉ ulOffsets) : (resetLdRegs p d).reg q = 0 := by
    refine resetLdRegs_reg_of_plain ?_ ?_ hflag d
    · rintro rfl
      exact absurd (hgeneric0.symm.trans hq) nofun
    · rintro rfl
      exact absurd (hgeneric1.symm.trans hq) nofun
  constructor
  case canonical => exact resetLdRegs_wf p d
  case within => exact resetLdRegs_within256 p d
  case activate => rw [hzero (by decide) (by decide)]; decide
  case rangeCheck => rw [hzero (by decide) (by decide)]; decide
  case flags =>
    intro slot hslot
    have hguarded := isUpperLimitOffset_of_slot slot hslot
    have hplain {r : Byte} (hr : isUpperLimitOffset r = false) : slot.1 ≠ r := by
      rintro rfl
      exact absurd (hguarded.symm.trans hr) nofun
    have hdma : ¬ (slot.1 = p.dmaReg0 ∨ slot.1 = p.dmaReg1) := not_or.mpr ⟨hplain hplain0, hplain hplain1⟩
    have hbit : (∃ a ∈ upperLimitSlots, a.1 = slot.1 ∧ d.ulMask.getLsbD a.2 = true) ↔
        d.ulMask.getLsbD slot.2 = true :=
      ⟨fun ⟨a, ha, hoffset, hset⟩ => slot_eq_of_offset_eq a ha slot hslot hoffset ▸ hset,
        fun hset => ⟨slot, hslot, rfl, hset⟩⟩
    rw [resetLdRegs_reg, resetLdRegs_ulMask, if_neg hdma]
    simp only [hbit]
    cases d.ulMask.getLsbD slot.2 <;> rfl
  case unreached =>
    intro q hq
    refine hzero (Bool.eq_false_iff.mpr fun hgeneric => not_unreachedIndex_of_generic hgeneric hq) ?_
    exact not_mem_ulOffsets_of_unreached hq

/-! ### The invariant of a card -/

theorem numbered_of_deviceIdentities {lds lds' : List LogicalDevice}
    (hsame : lds'.map deviceIdentity = lds.map deviceIdentity)
    (h : ∀ k d, lds[k]? = some d → d.number = BitVec.ofNat 8 k) :
    ∀ k d, lds'[k]? = some d → d.number = BitVec.ofNat 8 k := by
  intro k d' hget'
  have hk := congrArg (·[k]?) hsame
  simp only [List.getElem?_map, hget', Option.map_some] at hk
  obtain ⟨d, hget, hd⟩ := Option.map_eq_some_iff.mp hk.symm
  obtain ⟨hnumber, _⟩ := Prod.mk.inj hd
  rw [← hnumber, h k d hget]

/-- The pointer advances inside the ROM, returns to the start, or goes where a pass leaves it (R39, D6). -/
theorem CardChange.pointer {i : Instr} {s : State} {j : Nat} {c c' : Card} (h : CardChange s j c i c') :
    c'.romPos = c.romPos ∨ c'.romPos ≤ c.rom.length ∨ s.cfg.romPosAfterIsolation = some c'.romPos := by
  cases h with
  | woken v =>
    rw [Card.wake_eq]
    by_cases hcsn : c.csn = v
    · exact .inr (.inl (by simp [hcsn]))
    · exact .inl (if_neg hcsn)
  | pulsed =>
    obtain ⟨_, _, _, _, _, _, heq, _, hromPos⟩ := c.pulse_eq s.cfg
    rw [heq]
    exact hromPos.imp_right .inr
  | advanced hinside => exact .inr (.inl hinside)
  | _ => exact .inl rfl

theorem CardChange.cardInvariant {i : Instr} {s : State} {j : Nat} {c c' : Card} (hchange : CardChange s j c i c')
    (hblock : GenericInBlock i) (hsane : SaneParams s.cfg) (h : CardInvariant s.cfg c) : CardInvariant s.cfg c' := by
  constructor
  case header => rw [hchange.rom_length]; exact h.header
  case pointer =>
    rw [hchange.rom_length]
    obtain hsame | hinside | hafter := hchange.pointer
    · rw [hsame]; exact h.pointer
    · exact le_max_of_le_left hinside
    · rw [hafter]; exact le_max_right _ _
  case numbered => exact numbered_of_deviceIdentities hchange.deviceIdentities h.numbered
  case devices =>
    exact hchange.devices (resetLdRegs_deviceInvariant hsane) (fun hstores => hstores.deviceInvariant hblock) h.devices

theorem AttachedCard.cardInvariant {p : Params} {c : Card} (h : AttachedCard p c) (hsane : SaneParams p) :
    CardInvariant p c where
  header := by
    obtain ⟨rom, hooks, lds, hheader, _, rfl⟩ := h
    have ⟨hlength, _⟩ := resourceChecksumMakesTheSumZero rom
    exact hlength.symm ▸ hheader
  pointer := by
    obtain ⟨rom, hooks, lds, _, _, rfl⟩ := h
    exact Nat.zero_le _
  numbered k d hget := have ⟨hnumber, _⟩ := h.devices hget; hnumber
  devices := h.forall_device (resetLdRegs_deviceInvariant hsane)

theorem Effect.cfg {i : Instr} {s t : State} (h : Effect s i t) : t.cfg = s.cfg := by
  cases h <;> rfl

theorem Effect.cardsInvariant {i : Instr} {s t : State} (hblock : GenericInBlock i) (h : Effect s i t)
    (hs : s.CardsInvariant) : t.CardsInvariant := by
  refine ⟨h.cfg ▸ hs.params, fun c' hc' => ?_⟩
  rw [h.cfg]
  obtain ⟨j, c, hget, hchange⟩ | hattached := h.card_origin hc'
  · exact hchange.cardInvariant hblock hs.params (hs.cards c (List.mem_of_getElem? hget))
  · exact hattached.cardInvariant hs.params

/-- Settles O55: an attached card has the invariant, and every change of a card keeps it. -/
theorem stepKeepsTheCardsInvariant : Obligations.StepKeepsTheCardsInvariant := fun _ _ =>
  step_keeps (fun _ h => ⟨h.params, h.cards⟩) (fun _ _ h => ⟨h.params, h.cards⟩) Effect.cardsInvariant

/-! ### The read port and the references -/

theorem readPortAddress_low_bits (v : Byte) : readPortAddress v &&& 3 = 3 := by
  rw [readPortAddress]
  ext k
  simp +contextual

theorem mappedReadPort_legal (v : Byte) : mappedReadPort v = 0 ∨
    (readPortMin ≤ mappedReadPort v ∧ mappedReadPort v ≤ readPortMax ∧ mappedReadPort v &&& 3 = 3) := by
  unfold mappedReadPort
  split
  case isTrue hlegal =>
    obtain ⟨hmin, hmax⟩ := hlegal
    exact .inr ⟨hmin, hmax, readPortAddress_low_bits v⟩
  case isFalse => exact .inl rfl

section References

variable {i : Instr} {s t : State}

theorem Effect.readPortLegal (h : Effect s i t) (hs : s.ReadPortLegal) : t.ReadPortLegal := by
  cases h with
  | mapped v => exact mappedReadPort_legal v
  | controlled v =>
    by_cases hreset : v.getLsbD 0 = true
    · exact .inl (if_pos hreset)
    · have hkept : (s.control v).readPort = s.readPort := if_neg hreset
      rwa [State.ReadPortLegal, hkept]
  | initialised | destroyed => exact .inl rfl
  | _ => exact hs

/-- The marker after an operation: none, the old one, or a card of the chain. -/
theorem Effect.isolated_cases (h : Effect s i t) :
    t.isolated = none ∨ t.isolated = s.isolated ∨ ∃ j, j < s.cards.length ∧ t.isolated = some j := by
  cases h with
  | controlled v =>
    by_cases hreset : v.getLsbD 0 = true
    · exact .inl (if_pos hreset)
    · exact .inr (.inl (if_neg hreset))
  | configured | noneIsolated | initialised | destroyed => exact .inl rfl
  | pulsed hget =>
    obtain ⟨hj, _⟩ := List.getElem?_eq_some_iff.mp hget
    exact .inr (.inr ⟨_, hj, rfl⟩)
  | _ => exact .inr (.inl rfl)

/-- The selection after an operation: none, the old one, or a device of the chain. -/
theorem Effect.curLd_cases (h : Effect s i t) :
    t.curLd = none ∨ t.curLd = s.curLd ∨ ∃ ref d, s.DeviceAt ref.card ref.device d ∧ t.curLd = some ref := by
  cases h with
  | controlled v =>
    by_cases hreset : v.getLsbD 0 = true
    · exact .inl (if_pos hreset)
    · exact .inr (.inl (if_neg hreset))
  | initialised | destroyed => exact .inl rfl
  | selected v hget hdevice =>
    exact .inr (.inr ⟨_, _, ⟨_, hget, List.getElem?_eq_getElem hdevice⟩, rfl⟩)
  | _ => exact .inr (.inl rfl)

theorem movesCards_of_initOrTeardown (h : i = .machineInit ∨ i = .machineTeardown) : MovesCards i := by
  obtain rfl | rfl := h <;> trivial

theorem Effect.references_none (h : Effect s i t) (hgone : i = .machineInit ∨ i = .machineTeardown) :
    t.isolated = none ∧ t.curLd = none := by
  have hmoves := movesCards_of_initOrTeardown hgone
  cases h with
  | initialised | destroyed => exact ⟨rfl, rfl⟩
  | nothing hkept | fatal hkept => exact absurd hmoves hkept
  | stored hstores => exact absurd hmoves hstores.not_movesCards
  | _ => exact absurd hgone nofun

/-- No place of the chain is lost, and no device's place on its card. -/
theorem Effect.deviceAt {j k : Nat} {d : LogicalDevice} (h : Effect s i t) (hinit : i ≠ .machineInit)
    (hteardown : i ≠ .machineTeardown) (hd : s.DeviceAt j k d) : ∃ d', t.DeviceAt j k d' := by
  obtain ⟨c, hcard, hdevice⟩ := hd
  obtain ⟨c', hcard', hchange⟩ := h.card hinit hteardown hcard
  have hlength : c'.lds.length = c.lds.length := by
    simpa using congrArg List.length hchange.deviceIdentities
  obtain ⟨hk, _⟩ := List.getElem?_eq_some_iff.mp hdevice
  exact ⟨_, c', hcard', List.getElem?_eq_getElem (hlength ▸ hk)⟩

theorem Effect.lt_length {j : Nat} (h : Effect s i t) (hinit : i ≠ .machineInit) (hteardown : i ≠ .machineTeardown)
    (hj : j < s.cards.length) : j < t.cards.length := by
  obtain ⟨c', hcard', _⟩ := h.card hinit hteardown (List.getElem?_eq_getElem hj)
  obtain ⟨hj', _⟩ := List.getElem?_eq_some_iff.mp hcard'
  exact hj'

theorem Effect.referencesValid (h : Effect s i t) (hs : s.ReferencesValid) : t.ReferencesValid := by
  by_cases hgone : i = .machineInit ∨ i = .machineTeardown
  case pos =>
    obtain ⟨hisolated, hcurLd⟩ := h.references_none hgone
    exact State.referencesValid_of_none hisolated hcurLd
  case neg =>
    obtain ⟨hinit, hteardown⟩ := not_or.mp hgone
    obtain ⟨hisolated, hcurLd⟩ := hs
    constructor
    · intro j hj
      obtain hnone | hkept | ⟨j', hlt, hmarked⟩ := h.isolated_cases
      · cases hnone.symm.trans hj
      · exact h.lt_length hinit hteardown (hisolated j (hkept.symm.trans hj))
      · cases hmarked.symm.trans hj
        exact h.lt_length hinit hteardown hlt
    · intro ref href
      suffices hdevice : ∃ d, t.DeviceAt ref.card ref.device d by
        obtain ⟨d, c, hcard, hd⟩ := hdevice
        exact ⟨c, d, hcard, hd⟩
      obtain hnone | hkept | ⟨ref', d, hd, hselected⟩ := h.curLd_cases
      · cases hnone.symm.trans href
      · obtain ⟨c, d, hcard, hd⟩ := hcurLd ref (hkept.symm.trans href)
        exact h.deviceAt hinit hteardown ⟨c, hcard, hd⟩
      · cases hselected.symm.trans href
        exact h.deviceAt hinit hteardown hd

end References

/-- The read port is legal and both references are valid. -/
def State.PortAndReferencesValid (s : State) : Prop := s.ReadPortLegal ∧ s.ReferencesValid

theorem Effect.portAndReferencesValid {i : Instr} {s t : State} (h : Effect s i t) (hs : s.PortAndReferencesValid) :
    t.PortAndReferencesValid :=
  have ⟨hport, hreferences⟩ := hs
  ⟨h.readPortLegal hport, h.referencesValid hreferences⟩

/-- Settles O56: a mapped port is legal, a new reference points into the chain, and no place of the chain is lost. -/
theorem stepKeepsReferencesAndReadPort : Obligations.StepKeepsReferencesAndReadPort := fun _ _ hport hreferences =>
  step_keeps (P := State.PortAndReferencesValid) (fun _ h => h) (fun _ _ h => h) (fun _ => Effect.portAndReferencesValid)
    ⟨hport, hreferences⟩

end Sys2Proof.Machine
